-- ==== Sys2Proof/Word.lean ====
section
/-!
DEFINITION. The word types of the frame engine (spec/00_scope.md R7): every value is unsigned, bit 0 is the least
significant bit. Arithmetic on them is in Machine/Flags.lean and Machine/Operands.lean.
-/

namespace Sys2Proof

/-- One byte, `0 .. 255` (R7). -/
abbrev Byte := BitVec 8

/-- A 16-bit reading, budget or register word (R10). -/
abbrev Half := BitVec 16

/-- The host operation word HOSTOP, 64 bits (R71). -/
abbrev OpWord := BitVec 64

end Sys2Proof
end

