-- ==== Sys2Proof/Config.lean ====
section
/-!
DEFINITION. The parameters of the block (spec/00_scope.md R6): the constants the spec fixes or decides, and the two
values it leaves OPEN, which are opaque (log 1, log 2).
-/

namespace Sys2Proof.Config

/-- Head sentinel of a received frame (R6, fixed). -/
def head : Byte := 0x40
/-- Head sentinel of a transmitted frame (R6, D17: the default 0x40 of the optional parameter; log 16). -/
def headTx : Byte := 0x40

/-- Command codes (R66). -/
def cmdStart : Byte := 0x01
def cmdStop : Byte := 0x02
def cmdRead : Byte := 0x04
/-- One code for both "set" and "read adjustment coefficient" (R67). -/
def cmdCoeff : Byte := 0x08
def cmdStopAuto : Byte := 0x20
def cmdEnAuto : Byte := 0x40

/-- On/off constants for parameter bytes (R68); no named operation sends them. -/
def paramOff : Byte := 0x00
def paramOn : Byte := 0x01

/-- Data bytes of a measurement response (R6). -/
def measDataBytes : Nat := 4
/-- Longest frame the engine holds (R6, D5). -/
def maxFrame : Nat := 8
/-- Legal values of a length byte are `lenMin .. lenMax` (R6, R61). -/
def lenMin : Byte := 1
def lenMax : Byte := 5
/-- Length byte of a measurement frame (R64). -/
def lenMeas : Byte := 5
/-- Most parameter bytes SEND takes (R6, D12). -/
def maxParams : BitVec 3 := 4

/-- The two values of `status` (R13, D7; log 16). -/
def statusOk : Byte := 0x00
def statusErr : Byte := 0x01

/-- Operation codes (R72), as `cur_op` holds them. -/
def opReserved0 : BitVec 4 := 0x0
def opSend : BitVec 4 := 0x1
def opRecv : BitVec 4 := 0x2
def opStart : BitVec 4 := 0x3
def opStop : BitVec 4 := 0x4
def opEnauto : BitVec 4 := 0x5
def opDisauto : BitVec 4 := 0x6
def opReadpm : BitVec 4 := 0x7
def opInit : BitVec 4 := 0x8
def opGetpm25 : BitVec 4 := 0x9
def opGetpm10 : BitVec 4 := 0xA
def opStatus : BitVec 4 := 0xB
def opReservedC : BitVec 4 := 0xC
def opReservedD : BitVec 4 := 0xD
def opReservedE : BitVec 4 := 0xE
def opReservedF : BitVec 4 := 0xF

/-- READ_BUDGET (R6, D3): OPEN, any number of polls `0 .. 65535`. FREE VALUE, DESIGN CHOICE of form (log 1): nothing
constrains it; safe. `State.reset` carries it in `readBudget`, which no step writes. -/
opaque readBudget : BitVec 16

/-- What the transport answers to poll number `n` where the list `rx` of State names no answer (R44, D27): any byte or
none. FREE VALUE (log 2): nothing constrains it; safe. -/
opaque rxAnswer : Nat → Option (BitVec 8)

end Sys2Proof.Config
end

