-- ==== Sys2Proof/Machine/Flags.lean ====
section
/-!
DEFINITION. The checks and sums of the block: the checksum unit and the validity of a frame (spec/40_checksum.md R90 to
R94), and the operand legality tests (R103, R120). Pure functions; results are Bool where the block keeps one bit.
-/

namespace Sys2Proof.Machine

/-- `add8` (R97): addition modulo 256, carries dropped. -/
def add8 (a b : Byte) : Byte := a + b

/-- `neg8` (R97): 8-bit two's complement. -/
def neg8 (a : Byte) : Byte := -a

/-- `Sum8` (R90): modulo-256 sum of a byte list. -/
def sum8 : List Byte → Byte
  | [] => 0
  | b :: l => add8 b (sum8 l)

/-- `Csum8` (R91): the checksum byte of a frame whose earlier bytes are `l`. -/
def csum8 (l : List Byte) : Byte := neg8 (sum8 l)

/-- `CheckOk` (R92): the frame, checksum included, sums to 0. -/
def checkOk (f : List Byte) : Bool := sum8 f == 0

/-- The checksum test as the parser makes it (R94): running sum against the checksum byte. -/
def checksumGood (sum b : Byte) : Bool := add8 sum b == 0

/-- A length byte the engine accepts (R126): `1 .. 5`. -/
def lenOk (b : Byte) : Bool := !(b < Config.lenMin || Config.lenMax < b)

/-- `ValidFrame` (R93). -/
def validFrame (f : List Byte) : Bool :=
  decide (4 ≤ f.length) && decide (f.length ≤ 8) && f[0]? == some Config.head &&
    f[1]? == some (BitVec.ofNat 8 (f.length - 3)) && checkOk f

/-- `ValidFrameFor` (R93): valid and for the expected command byte. -/
def validFrameFor (f : List Byte) (e : Byte) : Bool := validFrame f && f[2]? == some e

/-- `ValidMeasurement` (R93). -/
def validMeasurement (f : List Byte) : Bool := validFrameFor f Config.cmdRead && f[1]? == some Config.lenMeas

/-- One of the six command codes of R66; every other value is reserved (R69). -/
def isCommand (c : Byte) : Bool :=
  c == Config.cmdStart || c == Config.cmdStop || c == Config.cmdRead || c == Config.cmdCoeff ||
    c == Config.cmdStopAuto || c == Config.cmdEnAuto

/-- SEND operand legality (R103). -/
def sendLegal (cmd : Byte) (nparam : BitVec 3) : Bool := isCommand cmd && decide (nparam ≤ Config.maxParams)

/-- RECV operand legality (R120): every budget is legal. -/
def recvLegal (cmd : Byte) : Bool := isCommand cmd

end Sys2Proof.Machine
end

