-- ==== Sys2Proof/Machine/Operands.lean ====
section
/-!
DEFINITION. The operand forms: the fields of the operation word (spec/30_encoding.md R71), the parameter list of SEND,
the frame builder (spec/41_encoder.md R100), and the assembly of the two readings (spec/20_memory.md R47).
-/

namespace Sys2Proof.Machine

/-- Fields of the operation word (R71). -/
def fieldOp (w : OpWord) : BitVec 4 := w.extractLsb' 0 4
def fieldCmd (w : OpWord) : Byte := w.extractLsb' 4 8
def fieldNparam (w : OpWord) : BitVec 3 := w.extractLsb' 12 3
def fieldP0 (w : OpWord) : Byte := w.extractLsb' 16 8
def fieldP1 (w : OpWord) : Byte := w.extractLsb' 24 8
def fieldP2 (w : OpWord) : Byte := w.extractLsb' 32 8
def fieldP3 (w : OpWord) : Byte := w.extractLsb' 40 8
def fieldBud (w : OpWord) : Half := w.extractLsb' 48 16

/-- An operation word from its fields, bit 15 zero (R71). -/
def packWord (op : BitVec 4) (cmd : Byte) (nparam : BitVec 3) (p0 p1 p2 p3 : Byte) (bud : Half) : OpWord :=
  bud ++ (p3 ++ (p2 ++ (p1 ++ (p0 ++ (0#1 ++ (nparam ++ (cmd ++ op)))))))

/-- The parameter list of a SEND: `[p0, p1, p2, p3]` truncated to `nparam` elements (R104). -/
def paramList (nparam : BitVec 3) (p0 p1 p2 p3 : Byte) : List Byte := [p0, p1, p2, p3].take nparam.toNat

/-- The frame before its checksum: head, length, command, parameters (R100). -/
def frameBody (c : Byte) (ps : List Byte) : List Byte :=
  Config.headTx :: BitVec.ofNat 8 (1 + ps.length) :: c :: ps

/-- `BuildFrame` (R100). -/
def buildFrame (c : Byte) (ps : List Byte) : List Byte := frameBody c ps ++ [csum8 (frameBody c ps)]

/-- The bytes of a frame as it stands on the wire: head `h`, command `c`, data `ds`, checksum byte `s` (R60). -/
def wireFrame (h c : Byte) (ds : List Byte) (s : Byte) : List Byte :=
  h :: BitVec.ofNat 8 (1 + ds.length) :: c :: (ds ++ [s])

/-- Concatenation of two bytes, the first one high: the big-endian readings (R7, R47). -/
def be16 (hi lo : Byte) : Half := hi ++ lo

end Sys2Proof.Machine
end

