-- ==== Sys2Proof/Syntax.lean ====
section
/-!
DEFINITION. The instructions, one constructor per row of spec/opcode_table.json: the eleven host operations and the
five reserved operation codes (spec/30_encoding.md R72, R73), and the twelve frame rows (R60, R64, R70). An
"instruction" of this block is a host operation or, on the wire, a frame (spec/00_scope.md R8).
-/

namespace Sys2Proof

/-- The side of the link a frame travels on (R40): `tx` from the engine to the sensor, `rx` from the sensor to the
engine. The table's rows FRAME_LEN1 to FRAME_LEN5 serve both; the bits of a frame do not tell which (log 8). -/
inductive Dir where
  | tx
  | rx
  deriving DecidableEq, Repr

/-- One constructor per row of the opcode table. Operand widths are those of R71 and R60. -/
inductive Instr where
  /-- SEND (R104): `cmd`, `nparam`, and the four parameter fields, those at or above `nparam` ignored. -/
  | send (cmd : Byte) (nparam : BitVec 3) (p0 p1 p2 p3 : Byte)
  /-- RECV (R121): expected command byte, read budget in polls. -/
  | recv (cmd : Byte) (bud : Half)
  /-- START (R105). -/
  | start
  /-- STOP (R106). -/
  | stop
  /-- ENAUTO (R107). -/
  | enauto
  /-- DISAUTO (R108). -/
  | disauto
  /-- READPM (R153). -/
  | readpm
  /-- INIT (R155). -/
  | init
  /-- GETPM25 (R156). -/
  | getpm25
  /-- GETPM10 (R157). -/
  | getpm10
  /-- STATUS (R158). -/
  | status
  /-- Reserved operation codes (R72, R73). -/
  | reserved0
  | reservedC
  | reservedD
  | reservedE
  | reservedF
  /-- The six fixed command frames (R70), transmitted. -/
  | frameCmdStart
  | frameCmdStop
  | frameCmdRead
  | frameCmdCoeffNodata
  | frameCmdStopAuto
  | frameCmdEnAuto
  /-- Generic frames (R60): command `c`, data or parameter bytes, checksum byte `s`. -/
  | frameLen1 (dir : Dir) (c s : Byte)
  | frameLen2 (dir : Dir) (c a s : Byte)
  | frameLen3 (dir : Dir) (c a b s : Byte)
  | frameLen4 (dir : Dir) (c a b d s : Byte)
  | frameLen5 (dir : Dir) (c a b d e s : Byte)
  /-- The measurement response (R64), received. -/
  | frameRspMeasurement (a b d e s : Byte)
  deriving DecidableEq, Repr

/-- What the decoder is given: an operation word on the host port (R71) or the bytes of a frame on one side of the link,
offset 0 first (R60). -/
inductive Fetch where
  | word (w : OpWord)
  | frame (dir : Dir) (bytes : List Byte)
  deriving DecidableEq, Repr

end Sys2Proof
end

