-- ==== Sys2Proof/Machine/State.lean ====
section
/-!
DEFINITION. The state of the frame engine: every register of spec/10_state.md R10, and what the model keeps beside them
(the TX log, the inputs, the port's read output, the parameter READ_BUDGET; log 1 to log 6). Plain data.
-/

namespace Sys2Proof.Machine

/-- `mode` (R14): the value 3 is never written and has no constructor (93_implementation_defined.md V5). -/
inductive Mode where
  | idle
  | measuring
  | stopped
  deriving DecidableEq, Repr

/-- `res_cause` (R17): codes 0 to 5 in this order; 6 and 7 are never written (V5). -/
inductive Cause where
  | none
  | timeout
  | checksum
  | command
  | length
  | illegalOp
  deriving DecidableEq, Repr

/-- `pstate` (R20): what the next received byte means; codes 0 to 5 in this order. -/
inductive PState where
  /-- `P_IDLE`: no read in progress. -/
  | idle
  /-- `P_HUNT`: looking for the head. -/
  | hunt
  /-- `P_LEN`: next byte is the length. -/
  | len
  /-- `P_CMD`: next byte is the command byte. -/
  | cmd
  /-- `P_DATA`: next byte is a data byte. -/
  | data
  /-- `P_CSUM`: next byte is the checksum. -/
  | csum
  deriving DecidableEq, Repr

/-- `phase` (R21): which part of a composite operation is running; codes 0 to 3 in this order. -/
inductive Phase where
  /-- 0: the START frame of INIT is due (also the value every prologue leaves, R150). -/
  | startFrame
  /-- 1: the ENAUTO frame of INIT is due. -/
  | autoFrame
  /-- 2: the CMD_READ frame of READPM or INIT is due. -/
  | readFrame
  /-- 3: a read of READPM or INIT. -/
  | reading
  deriving DecidableEq, Repr

/-- `res_data[0..3]` (R18). -/
structure ResData where
  d0 : Byte
  d1 : Byte
  d2 : Byte
  d3 : Byte
  deriving DecidableEq, Repr

/-- Byte memory as the frame buffer uses it (R46): (address, byte) pairs, addresses strictly rising, no entry equal to
what an unlisted address reads as. -/
abbrev Memory := List Host.Cell

/-- What an address of the frame buffer that is not listed reads as: its reset value 0x00 (R210; log 11). -/
def unlisted : Byte := 0x00

/-- The canonical form of the frame buffer: strictly rising addresses, all of them in `0 .. 7` (R46), no entry equal to
what an unlisted address reads as. -/
def Memory.wf (m : Memory) : Bool :=
  decide (m.Pairwise (fun x y => x.1 < y.1)) && m.all (fun c => decide (c.1 < Config.maxFrame) && c.2 != unlisted)

/-- The host-visible registers by number (R19). -/
inductive CReg where
  | cr0
  | cr1
  | cr2
  | cr3
  | cr4
  | cr5
  | cr6
  deriving DecidableEq, Repr

/-- One input of the machine, in the order the inputs happen (log 6). -/
inductive Event where
  /-- The host presents an operation word on the operation port (R71), busy or not (R188). -/
  | present (w : OpWord)
  /-- A host register read (R19, R22). -/
  | readReg (r : CReg)
  /-- The host does nothing; the engine takes one step of its own (D2). -/
  | pass
  /-- The host waits until `busy` has fallen (R191); the engine goes on meanwhile. -/
  | awaitDone
  /-- A whole frame, or other bytes, on one side of the link (R60; log 8): on RX received, and every byte of them kept
  (log 22); on TX the SEND whose frame they are. -/
  | link (dir : Dir) (bytes : List Byte)
  /-- The reset input (R210, R212). -/
  | reset
  deriving DecidableEq, Repr

/-- The state. The first eighteen fields are the registers of R10, in its order; the rest is not engine state (R24). -/
structure State where
  /-- Last good PM2.5 reading (R11). -/
  pm25 : Half
  /-- Last good PM10 reading (R12). -/
  pm10 : Half
  /-- Health byte (R13). -/
  status : Byte
  /-- Operational mode (R14). -/
  mode : Mode
  /-- An operation is in progress (R15). -/
  busy : Bool
  /-- The last operation succeeded (R16). -/
  resOk : Bool
  /-- Why the last operation did not succeed (R17). -/
  resCause : Cause
  /-- Number of data bytes of the last accepted frame (R18). -/
  resN : BitVec 3
  /-- Data bytes of the last accepted frame (R18). -/
  resData : ResData
  /-- Parser state (R20). -/
  pstate : PState
  /-- Frame offset of the next accepted byte (R21). -/
  idx : BitVec 4
  /-- Length byte of the candidate frame (R21). -/
  len : Byte
  /-- Command byte the current read wants (R21). -/
  expect : Byte
  /-- Running modulo-256 sum of the candidate (R21, R94). -/
  sum : Byte
  /-- Polls left in the current read (R21, R193). -/
  budget : Half
  /-- The frame buffer `buf[0..7]` (R21, R46). -/
  buf : Memory
  /-- Operation code of the operation in progress (R21). -/
  curOp : BitVec 4
  /-- Part of the composite operation that is running (R21). -/
  phase : Phase
  /-- The TX log: every byte ever written (R24 d; log 3). -/
  tx : List Byte
  /-- The transport's next answers, one per poll (R42, R44; log 2). -/
  rx : List (Option Byte)
  /-- Polls made so far; the index of the free answers (log 5). -/
  polls : Nat
  /-- The parameter READ_BUDGET (R6; log 1). -/
  readBudget : Half
  /-- The operation port's read output (R156; log 4). -/
  rdata : Half
  /-- Inputs still to come (log 6). -/
  inputs : List Event
  deriving DecidableEq, Repr

/-- The state right after reset (R210). The TX log, the inputs and the counters of the model's own are empty or zero
(log 2 to log 6); `readBudget` is the OPEN parameter (log 1). -/
def State.reset : State where
  pm25 := 0x0000
  pm10 := 0x0000
  status := Config.statusErr
  mode := .idle
  busy := false
  resOk := false
  resCause := .none
  resN := 0
  resData := ⟨0x00, 0x00, 0x00, 0x00⟩
  pstate := .idle
  idx := 0
  len := 0x00
  expect := 0x00
  sum := 0x00
  budget := 0x0000
  buf := []
  curOp := 0x0
  phase := .startFrame
  tx := []
  rx := []
  polls := 0
  readBudget := Config.readBudget
  rdata := 0x0000
  inputs := []

/-- Faults: the model stops where the engine cannot get to. -/
inductive Fault where
  /-- Raised by the parser's write of `buf[idx]` with `idx` above 7, an address R46 says is never accessed (log 11). Safe:
  the spec gives no such address. -/
  | bufIndex
  /-- Raised by the engine's own step when `busy = 1` in `P_IDLE` and no TxWrite of READPM or INIT is due (R153, R155):
  the spec gives no step there (log 12). Safe. -/
  | noStepDue
  deriving DecidableEq, Repr

/-- Refusals. -/
inductive Refusal where
  /-- Raised by `exec` for an instruction with no meaning yet. Safe. -/
  | notModelled (mnemonic : String)
  /-- Raised for bytes on the TX side that the encoder never builds: a reserved command byte (R69, R103), a checksum byte other
  than the computed one (R100), or no frame at all (R40: TX is written by TxWrite only; log 9). Safe. -/
  | neverTransmitted
  deriving DecidableEq, Repr

/-- One step's outcome. -/
abbrev Result := Host.Outcome State Fault Refusal

end Sys2Proof.Machine
end

