-- ==== Sys2Proof/Machine/Ops.lean ====
section
/-!
DEFINITION. The named operations over the registers, the frame buffer and the streams: prologue and the commits
(spec/43_operations.md R150 to R152, spec/42_parser.md R136), the failure commit and the refusal, which are what taking
an exception is on this block (spec/60_exceptions.md R186, R187), the mode update (R160), `TxWrite` (spec/20_memory.md
R41), the poll (R42), and reset (spec/70_reset_and_hazards.md R210 to R212). There is no return from a failure (R190).
-/

namespace Sys2Proof.Machine

/-! ### The encodings of the enumerated registers -/

/-- The 2-bit encoding of `mode` (R14). -/
def Mode.code : Mode → BitVec 2
  | .idle => 0
  | .measuring => 1
  | .stopped => 2

/-- The 3-bit encoding of `res_cause` (R17). -/
def Cause.code : Cause → BitVec 3
  | .none => 0
  | .timeout => 1
  | .checksum => 2
  | .command => 3
  | .length => 4
  | .illegalOp => 5

/-- The 3-bit encoding of `pstate` (R20). -/
def PState.code : PState → BitVec 3
  | .idle => 0
  | .hunt => 1
  | .len => 2
  | .cmd => 3
  | .data => 4
  | .csum => 5

/-- The 2-bit encoding of `phase` (R21). -/
def Phase.code : Phase → BitVec 2
  | .startFrame => 0
  | .autoFrame => 1
  | .readFrame => 2
  | .reading => 3

/-! ### The frame buffer -/

/-- One byte of the frame buffer. -/
def cellGet : Memory → Nat → Byte
  | [], _ => unlisted
  | (x, c) :: m, a => if x = a then c else cellGet m a

/-- The list form of a write, kept canonical: a byte equal to what an unlisted address reads as is not listed. -/
def cellPut : Memory → Nat → Byte → Memory
  | [], a, b => if b = unlisted then [] else [(a, b)]
  | (x, c) :: m, a, b =>
    if a < x then (if b = unlisted then (x, c) :: m else (a, b) :: (x, c) :: m)
    else if a = x then (if b = unlisted then m else (a, b) :: m)
    else (x, c) :: cellPut m a b

/-- `buf[i]` (R7). -/
def State.bufAt (s : State) (i : Nat) : Byte := cellGet s.buf i

/-- `buf[i] <- b` (R46): an index above 7 names no byte of the buffer. -/
def bufWrite (i : Nat) (b : Byte) (s : State) : Except Fault State :=
  if i < Config.maxFrame then .ok { s with buf := cellPut s.buf i b } else .error .bufIndex

/-! ### The frame of an operation -/

/-- Prologue (R150). The parameters of an operation are its arguments here, captured by being passed (R53). -/
def prologue (op : BitVec 4) (s : State) : State :=
  { s with
    busy := true, curOp := op, phase := .startFrame
    resOk := false, resCause := .none, resN := 0, resData := ⟨0, 0, 0, 0⟩ }

/-- Epilogue (R151). -/
def epilogue (s : State) : State := { s with busy := false }

/-- The result of a SEND (R104): success, and the epilogue in the same step (R151). -/
def sendDone (s : State) : State := epilogue { s with resOk := true, resCause := .none }

/-! ### Taking an exception -/

/-- Failure commit `fail(c)` (R186), the epilogue in it. -/
def failCommit (c : Cause) (s : State) : State :=
  epilogue
    { s with
      status := Config.statusErr, resOk := false, resCause := c, resN := 0, resData := ⟨0, 0, 0, 0⟩
      pstate := .idle }

/-- Refusal `refuse()` (R187), after the prologue of the refused operation (log 13). -/
def refuseOp (s : State) : State :=
  epilogue { s with resOk := false, resCause := .illegalOp, resN := 0, resData := ⟨0, 0, 0, 0⟩ }

/-! ### Mode and TX -/

/-- `NextMode` (R160). -/
def nextMode (m : Mode) (c : Byte) : Mode :=
  if c = Config.cmdStart ∨ c = Config.cmdEnAuto then .measuring
  else if c = Config.cmdStop ∨ c = Config.cmdStopAuto then .stopped
  else m

/-- `TxWrite` (R41). -/
def txWrite (l : List Byte) (s : State) : State := { s with tx := s.tx ++ l }

/-- The write step of a command frame: the frame to TX (R100, R41) and the mode update (R160). -/
def writeFrame (c : Byte) (ps : List Byte) (s : State) : State :=
  { txWrite (buildFrame c ps) s with mode := nextMode s.mode c }

/-! ### Reads -/

/-- The start of a read for command `e` with `b` polls (R121, R153). -/
def startRead (e : Byte) (b : Half) (s : State) : State :=
  { s with expect := e, budget := b, pstate := .hunt, idx := 0, sum := 0, len := 0 }

/-- What the transport answers to the poll made `j` polls from now (R42, R44): the list of answers, and past its end the
free value (log 2). -/
def State.answer (s : State) (j : Nat) : Option Byte :=
  match s.rx[j]? with
  | some a => a
  | none => Config.rxAnswer (s.polls + j)

/-- The state once a poll has been charged and its answer consumed (R122). -/
def chargePoll (s : State) : State :=
  { s with budget := s.budget - 1, rx := s.rx.drop 1, polls := s.polls + 1 }

/-- The payload registers of an accepted frame: `buf[3 + i]` for `i < len − 1`, zero above (R136). -/
def payload (s : State) : ResData :=
  let byte (i : Nat) : Byte := if i < s.len.toNat - 1 then s.bufAt (3 + i) else 0x00
  ⟨byte 0, byte 1, byte 2, byte 3⟩

/-- `RECV` success commit (R136), the epilogue in it. -/
def commitRecv (s : State) : State :=
  epilogue
    { s with
      status := Config.statusOk, resOk := true, resCause := .none
      resN := (s.len - 1).setWidth 3, resData := payload s
      pstate := .idle }

/-- `READPM` success commit (R152), one indivisible step, the epilogue in it. -/
def commitMeasurement (s : State) : State :=
  epilogue
    { s with
      pm25 := be16 (s.bufAt 3) (s.bufAt 4), pm10 := be16 (s.bufAt 5) (s.bufAt 6)
      status := Config.statusOk, resOk := true, resCause := .none
      resN := 4, resData := ⟨s.bufAt 3, s.bufAt 4, s.bufAt 5, s.bufAt 6⟩
      pstate := .idle }

/-! ### The host's side -/

/-- The accessors' result on the port's read output (R156 to R158). -/
def setRdata (v : Half) (s : State) : State := { s with rdata := v }

/-- `CR0` to `CR6` (R19), narrower ones zero-extended. -/
def creg (r : CReg) (s : State) : Half :=
  match r with
  | .cr0 => s.pm25
  | .cr1 => s.pm10
  | .cr2 => s.status.setWidth 16
  | .cr3 => s.mode.code.setWidth 16
  | .cr4 => ((BitVec.ofBool s.busy ++ BitVec.ofBool s.resOk ++ s.resCause.code ++ s.resN : BitVec 8)).setWidth 16
  | .cr5 => s.resData.d0 ++ s.resData.d1
  | .cr6 => s.resData.d2 ++ s.resData.d3

/-- A non-accessor operation starts only when `busy = 0`; presented while another is in progress it is ignored and leaves
no trace (R150, R188). `f` is the operation. -/
def whenIdle (f : State → State) (s : State) : State := if s.busy then s else f s

/-- Reset (R210 to R212): every register takes its reset value; the transport (its answers, the polls made), the TX log,
the parameter, the port's output and the inputs to come stay (log 3 to log 6). -/
def applyReset (s : State) : State :=
  { State.reset with
    tx := s.tx, rx := s.rx, polls := s.polls, readBudget := s.readBudget, rdata := s.rdata, inputs := s.inputs }

end Sys2Proof.Machine
end

