-- ==== Sys2Proof/Machine/Encoder.lean ====
section
/-!
DEFINITION. The command encoder (spec/41_encoder.md): SEND and the four named command operations. Each runs whole in its
start step: nothing of a SEND but registers of R10 may persist from one step to the next, and its operands are not among
them (spec/10_state.md R10, R24 b; log 7).
-/

namespace Sys2Proof.Machine

/-- A legal SEND from its prologue to its epilogue (R104). -/
def sendFrame (op : BitVec 4) (c : Byte) (ps : List Byte) (s : State) : State :=
  sendDone (writeFrame c ps (prologue op s))

/-- SEND (R103, R104): refused with illegal operands (R73, R187). -/
def execSend (cmd : Byte) (nparam : BitVec 3) (p0 p1 p2 p3 : Byte) (s : State) : Result :=
  .next (whenIdle (fun s =>
    if sendLegal cmd nparam then sendFrame Config.opSend cmd (paramList nparam p0 p1 p2 p3) s
    else refuseOp (prologue Config.opSend s)) s)

/-- START (R105): `SEND 0x01, []`. -/
def execStart (s : State) : Result := .next (whenIdle (sendFrame Config.opStart Config.cmdStart []) s)

/-- STOP (R106): `SEND 0x02, []`. -/
def execStop (s : State) : Result := .next (whenIdle (sendFrame Config.opStop Config.cmdStop []) s)

/-- ENAUTO (R107): `SEND 0x40, []`. -/
def execEnauto (s : State) : Result := .next (whenIdle (sendFrame Config.opEnauto Config.cmdEnAuto []) s)

/-- DISAUTO (R108): `SEND 0x20, []`. -/
def execDisauto (s : State) : Result := .next (whenIdle (sendFrame Config.opDisauto Config.cmdStopAuto []) s)

end Sys2Proof.Machine
end

