-- ==== Sys2Proof/Machine/Parser.lean ====
section
/-!
DEFINITION. The response parser (spec/42_parser.md): the byte-level state machine, one definition per state, the poll
step, and RECV.
-/

namespace Sys2Proof.Machine

/-- A model stop made an outcome of a step. -/
def outcome : Except Fault State → Result
  | .ok s => .next s
  | .error f => .fault f

/-- `P_HUNT` (R124, R125): a stray byte is dropped, the head begins the candidate. -/
def takeHunt (b : Byte) (s : State) : Except Fault State :=
  if b = Config.head then
    (bufWrite 0 b s).map fun s => { s with sum := b, idx := 1, pstate := .len }
  else .ok s

/-- `P_LEN` (R126). -/
def takeLen (b : Byte) (s : State) : Except Fault State :=
  if lenOk b then
    (bufWrite 1 b s).map fun s => { s with len := b, sum := add8 s.sum b, idx := 2, pstate := .cmd }
  else .ok (failCommit .length s)

/-- `P_CMD` (R127). -/
def takeCmd (b : Byte) (s : State) : Except Fault State :=
  (bufWrite 2 b s).map fun s =>
    { s with sum := add8 s.sum b, idx := 3, pstate := if s.len = 1 then .csum else .data }

/-- `P_DATA` (R128): the new `idx` is compared with `len + 2`. -/
def takeData (b : Byte) (s : State) : Except Fault State :=
  (bufWrite s.idx.toNat b s).map fun s =>
    { s with
      sum := add8 s.sum b, idx := s.idx + 1
      pstate := if (s.idx + 1).toNat = s.len.toNat + 2 then .csum else .data }

/-- End-of-frame checks (R130) in their order, with `b` the checksum byte. -/
def endOfFrame (b : Byte) (s : State) : State :=
  if checksumGood s.sum b = false then failCommit .checksum s
  else if s.bufAt 2 ≠ s.expect then failCommit .command s
  else if s.curOp ≠ Config.opRecv ∧ s.len ≠ Config.lenMeas then failCommit .length s
  else if s.curOp = Config.opRecv then commitRecv s
  else commitMeasurement s

/-- `P_CSUM` (R129): `sum` and `idx` are not changed. -/
def takeCsum (b : Byte) (s : State) : Except Fault State :=
  (bufWrite s.idx.toNat b s).map (endOfFrame b)

/-- Act on a byte according to `pstate` (R122). In `P_IDLE` no poll is made (R43). -/
def takeByte (b : Byte) (s : State) : Except Fault State :=
  match s.pstate with
  | .idle => .ok s
  | .hunt => takeHunt b s
  | .len => takeLen b s
  | .cmd => takeCmd b s
  | .data => takeData b s
  | .csum => takeCsum b s

/-- Budget exhaustion (R131). -/
def exhausted (s : State) : State :=
  failCommit (if s.pstate = .hunt then .timeout else .length) s

/-- The poll step (R122, R123). -/
def pollStep (s : State) : Except Fault State :=
  if s.budget = 0 then .ok (exhausted s)
  else
    match s.answer 0 with
    | none => .ok (chargePoll s)
    | some b => takeByte b (chargePoll s)

/-- Up to `n` poll steps, none after the read has ended (R129, R49). -/
def pollMany : Nat → State → Except Fault State
  | 0, s => .ok s
  | n + 1, s =>
    if s.pstate = .idle then .ok s
    else
      match pollStep s with
      | .ok t => pollMany n t
      | .error f => .error f

/-- Bytes arrive from the sensor: they wait in the transport behind what already waits there (R42, R43), and a read in
progress polls them one by one until it ends or has polled them all (R122 to R131; log 8). DESIGN CHOICE: the transport
keeps every one of them, however many, for as long as nothing polls; the spec leaves open how many it keeps and whether it
loses any (R43, 91_not_in_source.md N7; log 22). -/
def receiveBytes (bytes : List Byte) (s : State) : Except Fault State :=
  pollMany (s.rx.length + bytes.length) { s with rx := s.rx ++ bytes.map some }

/-- RECV (R120, R121): the start step; the polls are the engine's steps that follow. -/
def execRecv (cmd : Byte) (bud : Half) (s : State) : Result :=
  .next (whenIdle (fun s =>
    if recvLegal cmd then startRead cmd bud (prologue Config.opRecv s)
    else refuseOp (prologue Config.opRecv s)) s)

end Sys2Proof.Machine
end

