-- ==== Sys2Proof/Machine/Frames.lean ====
section
/-!
DEFINITION. The frame rows of the table (spec/30_encoding.md R60, R64, R70) as instructions on the wire (spec/00_scope.md
R8; log 8). TX is reached only from SEND and what is built on it (R40), so a frame on the TX side is the SEND whose frame
it is: an operation like any other, from its prologue to its epilogue (R104), ignored while another is in progress (R188). A
frame on the RX side is received: its bytes go to the transport and a read in progress polls them (R42, R122 to R131).
-/

namespace Sys2Proof.Machine

/-- A frame with command `c`, data `ds` and checksum byte `s` on one side of the link. On TX the encoder builds only
frames with a command code of R66 and the computed checksum (R69, R100; log 9). -/
def frameEffect (dir : Dir) (c : Byte) (ds : List Byte) (s : Byte) (st : State) : Result :=
  match dir with
  | .tx =>
    if isCommand c && s == csum8 (frameBody c ds) then .next (whenIdle (sendFrame Config.opSend c ds) st)
    else .refused .neverTransmitted
  | .rx => outcome (receiveBytes (wireFrame Config.head c ds s) st)

/-- The SEND without parameters that writes a fixed command frame (R70, R104). -/
def sendFixed (c : Byte) (st : State) : Result := .next (whenIdle (sendFrame Config.opSend c []) st)

/-- FRAME_CMD_START: `40 01 01 BE` (R70, R105). -/
def execFrameCmdStart (st : State) : Result := sendFixed Config.cmdStart st
/-- FRAME_CMD_STOP: `40 01 02 BD` (R70, R106). -/
def execFrameCmdStop (st : State) : Result := sendFixed Config.cmdStop st
/-- FRAME_CMD_READ: `40 01 04 BB` (R70, R153). -/
def execFrameCmdRead (st : State) : Result := sendFixed Config.cmdRead st
/-- FRAME_CMD_COEFF_NODATA: `40 01 08 B7` (R70, R102). -/
def execFrameCmdCoeffNodata (st : State) : Result := sendFixed Config.cmdCoeff st
/-- FRAME_CMD_STOP_AUTO: `40 01 20 9F` (R70, R108). -/
def execFrameCmdStopAuto (st : State) : Result := sendFixed Config.cmdStopAuto st
/-- FRAME_CMD_EN_AUTO: `40 01 40 7F` (R70, R107). -/
def execFrameCmdEnAuto (st : State) : Result := sendFixed Config.cmdEnAuto st

/-- FRAME_LEN1: no data byte. -/
def execFrameLen1 (dir : Dir) (c s : Byte) (st : State) : Result := frameEffect dir c [] s st
/-- FRAME_LEN2: one data byte. -/
def execFrameLen2 (dir : Dir) (c a s : Byte) (st : State) : Result := frameEffect dir c [a] s st
/-- FRAME_LEN3: two data bytes. -/
def execFrameLen3 (dir : Dir) (c a b s : Byte) (st : State) : Result := frameEffect dir c [a, b] s st
/-- FRAME_LEN4: three data bytes. -/
def execFrameLen4 (dir : Dir) (c a b d s : Byte) (st : State) : Result := frameEffect dir c [a, b, d] s st
/-- FRAME_LEN5: four data bytes. -/
def execFrameLen5 (dir : Dir) (c a b d e s : Byte) (st : State) : Result := frameEffect dir c [a, b, d, e] s st

/-- FRAME_RSP_MEASUREMENT (R64): received; a READPM in progress accepts it by R152. -/
def execFrameRspMeasurement (a b d e s : Byte) (st : State) : Result :=
  frameEffect .rx Config.cmdRead [a, b, d, e] s st

end Sys2Proof.Machine
end

