-- ==== Sys2Proof/Machine/Operations.lean ====
section
/-!
DEFINITION. The composite operations READPM and INIT, and the accessors (spec/43_operations.md).
-/

namespace Sys2Proof.Machine

/-- READPM (R153): the start step. The TxWrite and the polls are the engine's steps that follow (R159). -/
def execReadpm (s : State) : Result :=
  .next (whenIdle (fun s => { prologue Config.opReadpm s with phase := .readFrame }) s)

/-- INIT (R155): the start step. The three TxWrites and the polls are the engine's steps that follow (R159). -/
def execInit (s : State) : Result :=
  .next (whenIdle (fun s => { prologue Config.opInit s with phase := .startFrame }) s)

/-- GETPM25 (R156): accepted while busy, writes no register (R22). -/
def execGetpm25 (s : State) : Result := .next (setRdata s.pm25 s)

/-- GETPM10 (R157). -/
def execGetpm10 (s : State) : Result := .next (setRdata s.pm10 s)

/-- STATUS (R158): zero-extended. -/
def execStatus (s : State) : Result := .next (setRdata (s.status.setWidth 16) s)

end Sys2Proof.Machine
end

