-- ==== Sys2Proof/Machine/Reserved.lean ====
section
/-!
DEFINITION. The reserved operation codes (spec/30_encoding.md R73): each runs the prologue and is refused with ILLEGAL_OP
(spec/60_exceptions.md R187); while busy it is ignored like any non-accessor (R188, R150).
-/

namespace Sys2Proof.Machine

/-- The refusal of a reserved code (R73, R150, R187). -/
def refuseReserved (op : BitVec 4) (s : State) : Result := .next (whenIdle (fun s => refuseOp (prologue op s)) s)

/-- Code 0x0. -/
def execReserved0 (s : State) : Result := refuseReserved Config.opReserved0 s
/-- Code 0xC. -/
def execReservedC (s : State) : Result := refuseReserved Config.opReservedC s
/-- Code 0xD. -/
def execReservedD (s : State) : Result := refuseReserved Config.opReservedD s
/-- Code 0xE. -/
def execReservedE (s : State) : Result := refuseReserved Config.opReservedE s
/-- Code 0xF. -/
def execReservedF (s : State) : Result := refuseReserved Config.opReservedF s

end Sys2Proof.Machine
end

