-- ==== Sys2Proof/Machine/Dispatch.lean ====
section
/-!
DEFINITION. One arm per constructor of Instr, one direct call of its meaning each.
-/

namespace Sys2Proof.Machine

def exec (i : Instr) (s : State) : Host.Outcome State Fault Refusal :=
  match i with
  | .send cmd nparam p0 p1 p2 p3 => Sys2Proof.Machine.execSend cmd nparam p0 p1 p2 p3 s
  | .recv cmd bud => Sys2Proof.Machine.execRecv cmd bud s
  | .start => Sys2Proof.Machine.execStart s
  | .stop => Sys2Proof.Machine.execStop s
  | .enauto => Sys2Proof.Machine.execEnauto s
  | .disauto => Sys2Proof.Machine.execDisauto s
  | .readpm => Sys2Proof.Machine.execReadpm s
  | .init => Sys2Proof.Machine.execInit s
  | .getpm25 => Sys2Proof.Machine.execGetpm25 s
  | .getpm10 => Sys2Proof.Machine.execGetpm10 s
  | .status => Sys2Proof.Machine.execStatus s
  | .reserved0 => Sys2Proof.Machine.execReserved0 s
  | .reservedC => Sys2Proof.Machine.execReservedC s
  | .reservedD => Sys2Proof.Machine.execReservedD s
  | .reservedE => Sys2Proof.Machine.execReservedE s
  | .reservedF => Sys2Proof.Machine.execReservedF s
  | .frameCmdStart => Sys2Proof.Machine.execFrameCmdStart s
  | .frameCmdStop => Sys2Proof.Machine.execFrameCmdStop s
  | .frameCmdRead => Sys2Proof.Machine.execFrameCmdRead s
  | .frameCmdCoeffNodata => Sys2Proof.Machine.execFrameCmdCoeffNodata s
  | .frameCmdStopAuto => Sys2Proof.Machine.execFrameCmdStopAuto s
  | .frameCmdEnAuto => Sys2Proof.Machine.execFrameCmdEnAuto s
  | .frameLen1 dir c k => Sys2Proof.Machine.execFrameLen1 dir c k s
  | .frameLen2 dir c a k => Sys2Proof.Machine.execFrameLen2 dir c a k s
  | .frameLen3 dir c a b k => Sys2Proof.Machine.execFrameLen3 dir c a b k s
  | .frameLen4 dir c a b d k => Sys2Proof.Machine.execFrameLen4 dir c a b d k s
  | .frameLen5 dir c a b d e k => Sys2Proof.Machine.execFrameLen5 dir c a b d e k s
  | .frameRspMeasurement a b d e k => Sys2Proof.Machine.execFrameRspMeasurement a b d e k s

end Sys2Proof.Machine
end

