-- ==== Sys2Proof/WellFormed.lean ====
section
/-!
DEFINITION. Well-formed instructions: the terms the decoder can answer. A host operation is well formed with any
operands, since every value of every field is an operation word (R71); whether the engine accepts the operands is a
matter of execution (R73). A frame is well formed where it is the table's own row for its bytes and, on the TX side,
one the encoder builds.
-/

namespace Sys2Proof

/-- Check: a frame on the TX side carries one of the six command codes (R66, R69). -/
def txCommandOk (c : Byte) : Bool := Machine.isCommand c

/-- Check: the checksum byte of a frame on the TX side is the one the encoder computes (R100). -/
def txChecksumOk (c : Byte) (ps : List Byte) (s : Byte) : Bool := s == Machine.csum8 (Machine.frameBody c ps)

/-- Check of a generic frame by its side of the link: anything is received (R69), only built frames are sent. -/
def frameOk (dir : Dir) (c : Byte) (ps : List Byte) (s : Byte) : Bool :=
  match dir with
  | .rx => true
  | .tx => txCommandOk c && txChecksumOk c ps s

/-- The well-formedness of an instruction. Two rows give way to a more special one: a parameterless frame on TX is one of the
six FRAME_CMD rows (R70), and a five-byte-length frame with command 0x04 on RX is FRAME_RSP_MEASUREMENT (R64). -/
def Instr.wellFormed : Instr → Bool
  | .send _ _ _ _ _ _ => true
  | .recv _ _ => true
  | .start => true
  | .stop => true
  | .enauto => true
  | .disauto => true
  | .readpm => true
  | .init => true
  | .getpm25 => true
  | .getpm10 => true
  | .status => true
  | .reserved0 => true
  | .reservedC => true
  | .reservedD => true
  | .reservedE => true
  | .reservedF => true
  | .frameCmdStart => true
  | .frameCmdStop => true
  | .frameCmdRead => true
  | .frameCmdCoeffNodata => true
  | .frameCmdStopAuto => true
  | .frameCmdEnAuto => true
  | .frameLen1 dir _ _ => dir == .rx
  | .frameLen2 dir c a s => frameOk dir c [a] s
  | .frameLen3 dir c a b s => frameOk dir c [a, b] s
  | .frameLen4 dir c a b d s => frameOk dir c [a, b, d] s
  | .frameLen5 dir c a b d e s => frameOk dir c [a, b, d, e] s && !(dir == .rx && c == Config.cmdRead)
  | .frameRspMeasurement _ _ _ _ _ => true

end Sys2Proof
end

