-- ==== Sys2Proof/Decode.lean ====
section
/-!
DEFINITION. The decoder, total on any operation word and any frame bytes, and the encoder (spec/30_encoding.md R60 to
R74). The two encodings are told apart by where the bits come from (`Fetch`): the host port or one side of the link.
-/

namespace Sys2Proof

open Sys2Proof.Machine

/-- Why the bytes on the link are no instruction of the table. -/
inductive DecodeError where
  /-- The number of bytes is not one of 4 .. 8 (R60). -/
  | frameSize
  /-- The first byte is not the head sentinel (R60). -/
  | noHead
  /-- The length byte does not agree with the number of bytes (R61). -/
  | lengthMismatch
  /-- On the TX side: the command byte is reserved, so the encoder sends no such frame (R69). -/
  | reservedCommand
  /-- On the TX side: the checksum byte is not the one the encoder computes (R100). -/
  | checksumNotBuilt
  deriving DecidableEq, Repr

/-- The host operation of an operation word (R71, R72): one for every word; ignored fields are dropped. -/
def decodeWord (w : OpWord) : Instr :=
  match (fieldOp w).toNat with
  | 0 => .reserved0
  | 1 => .send (fieldCmd w) (fieldNparam w) (fieldP0 w) (fieldP1 w) (fieldP2 w) (fieldP3 w)
  | 2 => .recv (fieldCmd w) (fieldBud w)
  | 3 => .start
  | 4 => .stop
  | 5 => .enauto
  | 6 => .disauto
  | 7 => .readpm
  | 8 => .init
  | 9 => .getpm25
  | 10 => .getpm10
  | 11 => .status
  | 12 => .reservedC
  | 13 => .reservedD
  | 14 => .reservedE
  | _ => .reservedF

/-- The fixed command frame of a command byte (R70). -/
def fixedFrame (c : Byte) : Except DecodeError Instr :=
  if c = Config.cmdStart then .ok .frameCmdStart
  else if c = Config.cmdStop then .ok .frameCmdStop
  else if c = Config.cmdRead then .ok .frameCmdRead
  else if c = Config.cmdCoeff then .ok .frameCmdCoeffNodata
  else if c = Config.cmdStopAuto then .ok .frameCmdStopAuto
  else if c = Config.cmdEnAuto then .ok .frameCmdEnAuto
  else .error .reservedCommand

/-- A transmitted frame must be one the encoder builds: `i` if it is, the reason if it is not (R69, R100). -/
def sentFrame (c : Byte) (ps : List Byte) (s : Byte) (i : Except DecodeError Instr) : Except DecodeError Instr :=
  if txCommandOk c = false then .error .reservedCommand
  else if txChecksumOk c ps s = false then .error .checksumNotBuilt
  else i

/-- A frame with head and length already checked: `c` command, `ds` data, `s` checksum (R60). On RX every frame is an
instruction; a frame of length 5 for command 0x04 is the measurement response (R64). -/
def decodeBody (dir : Dir) (c : Byte) (ds : List Byte) (s : Byte) : Except DecodeError Instr :=
  match dir, ds with
  | .tx, [] => sentFrame c [] s (fixedFrame c)
  | .rx, [] => .ok (.frameLen1 .rx c s)
  | .tx, [a] => sentFrame c [a] s (.ok (.frameLen2 .tx c a s))
  | .rx, [a] => .ok (.frameLen2 .rx c a s)
  | .tx, [a, b] => sentFrame c [a, b] s (.ok (.frameLen3 .tx c a b s))
  | .rx, [a, b] => .ok (.frameLen3 .rx c a b s)
  | .tx, [a, b, d] => sentFrame c [a, b, d] s (.ok (.frameLen4 .tx c a b d s))
  | .rx, [a, b, d] => .ok (.frameLen4 .rx c a b d s)
  | .tx, [a, b, d, e] => sentFrame c [a, b, d, e] s (.ok (.frameLen5 .tx c a b d e s))
  | .rx, [a, b, d, e] =>
    if c = Config.cmdRead then .ok (.frameRspMeasurement a b d e s) else .ok (.frameLen5 .rx c a b d e s)
  | _, _ => .error .frameSize

/-- The head of a frame of this side (R6, D17). -/
def headOf : Dir → Byte
  | .tx => Config.headTx
  | .rx => Config.head

/-- The frame rows (R60 to R64, R70): head, length byte against the number of bytes, then the row. -/
def decodeFrame (dir : Dir) (bytes : List Byte) : Except DecodeError Instr :=
  match bytes with
  | h :: l :: c :: x :: rest =>
    if h ≠ headOf dir then .error .noHead
    else if l.toNat + 3 ≠ bytes.length then .error .lengthMismatch
    else decodeBody dir c ((x :: rest).dropLast) ((x :: rest).getLast (List.cons_ne_nil x rest))
  | _ => .error .frameSize

/-- The decoder. -/
def decode : Fetch → Except DecodeError Instr
  | .word w => .ok (decodeWord w)
  | .frame dir bytes => decodeFrame dir bytes

/-- The encoder: the operation word with every unused bit zero (R71), or the frame's bytes (R60). -/
def encode : Instr → Fetch
  | .send cmd nparam p0 p1 p2 p3 => .word (packWord Config.opSend cmd nparam p0 p1 p2 p3 0)
  | .recv cmd bud => .word (packWord Config.opRecv cmd 0 0 0 0 0 bud)
  | .start => .word (packWord Config.opStart 0 0 0 0 0 0 0)
  | .stop => .word (packWord Config.opStop 0 0 0 0 0 0 0)
  | .enauto => .word (packWord Config.opEnauto 0 0 0 0 0 0 0)
  | .disauto => .word (packWord Config.opDisauto 0 0 0 0 0 0 0)
  | .readpm => .word (packWord Config.opReadpm 0 0 0 0 0 0 0)
  | .init => .word (packWord Config.opInit 0 0 0 0 0 0 0)
  | .getpm25 => .word (packWord Config.opGetpm25 0 0 0 0 0 0 0)
  | .getpm10 => .word (packWord Config.opGetpm10 0 0 0 0 0 0 0)
  | .status => .word (packWord Config.opStatus 0 0 0 0 0 0 0)
  | .reserved0 => .word (packWord Config.opReserved0 0 0 0 0 0 0 0)
  | .reservedC => .word (packWord Config.opReservedC 0 0 0 0 0 0 0)
  | .reservedD => .word (packWord Config.opReservedD 0 0 0 0 0 0 0)
  | .reservedE => .word (packWord Config.opReservedE 0 0 0 0 0 0 0)
  | .reservedF => .word (packWord Config.opReservedF 0 0 0 0 0 0 0)
  | .frameCmdStart => .frame .tx (buildFrame Config.cmdStart [])
  | .frameCmdStop => .frame .tx (buildFrame Config.cmdStop [])
  | .frameCmdRead => .frame .tx (buildFrame Config.cmdRead [])
  | .frameCmdCoeffNodata => .frame .tx (buildFrame Config.cmdCoeff [])
  | .frameCmdStopAuto => .frame .tx (buildFrame Config.cmdStopAuto [])
  | .frameCmdEnAuto => .frame .tx (buildFrame Config.cmdEnAuto [])
  | .frameLen1 dir c s => .frame dir (wireFrame (headOf dir) c [] s)
  | .frameLen2 dir c a s => .frame dir (wireFrame (headOf dir) c [a] s)
  | .frameLen3 dir c a b s => .frame dir (wireFrame (headOf dir) c [a, b] s)
  | .frameLen4 dir c a b d s => .frame dir (wireFrame (headOf dir) c [a, b, d] s)
  | .frameLen5 dir c a b d e s => .frame dir (wireFrame (headOf dir) c [a, b, d, e] s)
  | .frameRspMeasurement a b d e s => .frame .rx (wireFrame (headOf .rx) Config.cmdRead [a, b, d, e] s)

/-- The `n` bytes of a number, most significant first: a frame's pattern in the opcode table has its first byte, offset
0, leftmost (log 10). -/
def bytesOf : Nat → Nat → List Byte
  | 0, _ => []
  | n + 1, w => BitVec.ofNat 8 (w / 256 ^ n) :: bytesOf n w

/-- Do these bytes begin as a frame of just this many bytes does (head, length; R60)? -/
def looksLikeFrame (bytes : List Byte) : Bool :=
  match bytes with
  | h :: l :: _ :: _ :: _ => h == Config.head && lenOk l && decide (l.toNat + 3 = bytes.length)
  | _ => false

/-- The side of the link for the bits of a table row: the six fixed command frames are the table's TX rows, every other
frame is taken as received (log 10). -/
def tableSide (bytes : List Byte) : Dir :=
  if bytes.length = 4 ∧ (decodeFrame .tx bytes).toBool = true then .tx else .rx

/-- What stands for the bits `w` of a table row of `nbits` bits (whole bytes): a frame where they begin as a frame of that
size does, else an operation word with zeros above (log 10). -/
def tableFetch (nbits w : Nat) : Option Fetch :=
  if nbits ≤ 64 ∧ w < 2 ^ nbits then
    if looksLikeFrame (bytesOf (nbits / 8) w) = true then
      some (.frame (tableSide (bytesOf (nbits / 8) w)) (bytesOf (nbits / 8) w))
    else some (.word (BitVec.ofNat 64 w))
  else none

/-- The instruction the decoder reads from a table row's bits. -/
def decodeTableWord (nbits w : Nat) : Option Instr :=
  match tableFetch nbits w with
  | some f => (decode f).toOption
  | none => none

end Sys2Proof
end

