-- ==== Sys2Proof/Machine/Engine.lean ====
section
/-!
DEFINITION. What the engine does of its own between the host's inputs (92_eei_decisions.md D2): the TxWrite steps of
READPM and INIT and the polls (spec/43_operations.md R153, R155, R159); and what step does with an input.
-/

namespace Sys2Proof.Machine

/-- The write step of a composite in progress (R153, R155): the frame its `phase` says is due. After the CMD_READ frame
the read starts in the same step (R153). -/
def writeStep (s : State) : Except Fault State :=
  if s.curOp = Config.opInit ∧ s.phase = .startFrame then
    .ok { writeFrame Config.cmdStart [] s with phase := .autoFrame }
  else if s.curOp = Config.opInit ∧ s.phase = .autoFrame then
    .ok { writeFrame Config.cmdEnAuto [] s with phase := .readFrame }
  else if (s.curOp = Config.opReadpm ∨ s.curOp = Config.opInit) ∧ s.phase = .readFrame then
    .ok (startRead Config.cmdRead s.readBudget { writeFrame Config.cmdRead [] s with phase := .reading })
  else .error .noStepDue

/-- One step of the engine's own. While `pstate` is not `P_IDLE` it is the poll step (R122); between operations the
engine does nothing (R50, R194). -/
def engineStep (s : State) : Result :=
  if s.pstate ≠ .idle then outcome (pollStep s)
  else if s.busy then outcome (writeStep s)
  else .next s

/-- The next input is taken off the list. -/
def dropInput (s : State) : State := { s with inputs := s.inputs.drop 1 }

/-- Bytes on the link that are no row of the table: on RX they are received all the same (R124: strays; R44); on TX the
encoder never sends them (R41; log 9). -/
def undecoded (f : Fetch) (s : State) : Result :=
  match f with
  | .frame .rx bytes => outcome (receiveBytes bytes s)
  | .frame .tx _ => .refused .neverTransmitted
  | .word _ => .next s

/-- The input event that brings what was fetched (log 6, log 8). -/
def eventOf : Fetch → Event
  | .word w => .present w
  | .frame dir bytes => .link dir bytes

/-- A table row's bits placed as the machine's next input (log 10). -/
def placeFetch (nbits w : Nat) (s : State) : State :=
  match tableFetch nbits w with
  | some f => { s with inputs := eventOf f :: s.inputs }
  | none => s

end Sys2Proof.Machine
end

