-- ==== Sys2Proof/Machine/Step.lean ====
section
/-!
DEFINITION. One step of the machine: the next input, if there is one, else a step of the engine's own (log 6).
-/

namespace Sys2Proof.Machine

/-- Decode and run what an input brought. -/
def runFetch (f : Fetch) (s : State) : Result :=
  match decode f with
  | .ok i => exec i s
  | .error _ => undecoded f s

/-- One step. An input that brings an instruction is taken off the list and the instruction runs; a register read and the
reset input act at once; `pass` gives the engine a step; `awaitDone` does so while `busy` is set and is then taken off. With no
input left the engine goes on with what it is doing (R51). -/
def step (s : State) : Host.Outcome State Fault Refusal :=
  match s.inputs with
  | [] => engineStep s
  | .pass :: _ => engineStep (dropInput s)
  | .awaitDone :: _ => if s.busy then engineStep s else .next (dropInput s)
  | .present w :: _ => runFetch (.word w) (dropInput s)
  | .link dir bytes :: _ => runFetch (.frame dir bytes) (dropInput s)
  | .readReg r :: _ => .next (setRdata (creg r s) (dropInput s))
  | .reset :: _ => .next (applyReset (dropInput s))

/-- The instruction of a table row's bits as the next input, so that the next step fetches and runs it (log 6, log 10). -/
def State.withFetchWord (s : State) (nbits w : Nat) : State := placeFetch nbits w s

end Sys2Proof.Machine
end

