-- ==== Sys2Proof/Machine/ClosedForm.lean ====
section
/-!
DEFINITION. The closed form of a read (spec/42_parser.md R135): a function of the poll answers, the expected command,
the budget and the flag "read of READPM or INIT". The machine does not use it; statements compare the two.
-/

namespace Sys2Proof.Machine

/-- What a read comes to. -/
inductive ReadResult where
  | ok (data : List Byte)
  | fail (c : Cause)
  deriving DecidableEq, Repr

/-- `st` and `f` of R135. -/
inductive ParseStage where
  | hunt
  | len
  | body (f : List Byte)
  deriving DecidableEq, Repr

/-- The verdict on a complete candidate `f` (R135). -/
def judge (f : List Byte) (e : Byte) (m : Bool) : ReadResult :=
  if sum8 f ≠ 0 then .fail .checksum
  else if f[2]? ≠ some e then .fail .command
  else if m = true ∧ f[1]? ≠ some Config.lenMeas then .fail .length
  else .ok ((f.drop 3).dropLast)

/-- The loop of R135: `left` polls still allowed, `k` made; the result and the number of polls made. -/
def parseFrom (a : Nat → Option Byte) (e : Byte) (m : Bool) : Nat → Nat → ParseStage → ReadResult × Nat
  | 0, k, st => (.fail (if st = .hunt then .timeout else .length), k)
  | left + 1, k, st =>
    match a k with
    | none => parseFrom a e m left (k + 1) st
    | some b =>
      match st with
      | .hunt => parseFrom a e m left (k + 1) (if b = Config.head then .len else .hunt)
      | .len =>
        if lenOk b then parseFrom a e m left (k + 1) (.body [Config.head, b])
        else (.fail .length, k + 1)
      | .body f =>
        if f.length + 1 = (f[1]?.getD 0).toNat + 3 then (judge (f ++ [b]) e m, k + 1)
        else parseFrom a e m left (k + 1) (.body (f ++ [b]))

/-- `Parse(a, e, B, m)` (R135). -/
def parse (a : Nat → Option Byte) (e : Byte) (B : Nat) (m : Bool) : ReadResult × Nat :=
  parseFrom a e m B 0 .hunt

end Sys2Proof.Machine
end

