-- ==== Sys2Proof/Safety.lean ====
section
/-!
DEFINITION. The terms in which claims speak of safe runs: the invariant of the registers (spec/10_state.md R13 to R21),
and what it is for a run never to stop on a fault.
-/

namespace Sys2Proof.Machine

/-- The candidate frame as far as it has been taken: `buf[0 .. idx − 1]`. -/
def taken (s : State) : List Byte := (List.range s.idx.toNat).map s.bufAt

/-- The part of R21 common to every parser state after the head: the buffer holds a candidate that begins with the head,
and `sum` is its running sum. -/
def Candidate (s : State) : Prop := s.bufAt 0 = Config.head ∧ s.sum = sum8 (taken s)

/-- The length byte is legal and stands in the buffer (R21, R126). -/
def LengthTaken (s : State) : Prop := lenOk s.len = true ∧ s.bufAt 1 = s.len

/-- The invariants of a read in progress (R21), by parser state. -/
def ParserInv (s : State) : Prop :=
  match s.pstate with
  | .idle => True
  | .hunt => s.idx = 0 ∧ s.sum = 0 ∧ s.len = 0
  | .len => s.idx = 1 ∧ Candidate s
  | .cmd => s.idx = 2 ∧ LengthTaken s ∧ Candidate s
  | .data => 3 ≤ s.idx.toNat ∧ s.idx.toNat ≤ s.len.toNat + 1 ∧ LengthTaken s ∧ Candidate s
  | .csum => s.idx.toNat = s.len.toNat + 2 ∧ LengthTaken s ∧ Candidate s

/-- Whose read is in progress: RECV's, for one of the six commands (R120, R121), or that of READPM or INIT (R153, R155). -/
def ReadOwner (s : State) : Prop :=
  (s.curOp = Config.opRecv ∧ isCommand s.expect = true) ∨
    ((s.curOp = Config.opReadpm ∨ s.curOp = Config.opInit) ∧ s.expect = Config.cmdRead ∧ s.phase = .reading)

/-- A TxWrite of a composite is due (R153, R155, R159). -/
def WriteDue (s : State) : Prop :=
  (s.curOp = Config.opInit ∧ s.phase ≠ .reading) ∨ (s.curOp = Config.opReadpm ∧ s.phase = .readFrame)

/-- The result registers hold no payload (R18). -/
def NoPayload (s : State) : Prop := s.resN = 0 ∧ s.resData = ⟨0, 0, 0, 0⟩

/-- `res_data[i]` is 0 for `i ≥ res_n`, and `res_n` is at most 4 (R18). -/
def PayloadPadded (s : State) : Prop :=
  s.resN.toNat ≤ 4 ∧ (s.resN.toNat ≤ 3 → s.resData.d3 = 0) ∧ (s.resN.toNat ≤ 2 → s.resData.d2 = 0) ∧
    (s.resN.toNat ≤ 1 → s.resData.d1 = 0) ∧ (s.resN.toNat = 0 → s.resData.d0 = 0)

/-- The invariant of the machine. -/
structure Inv (s : State) : Prop where
  /-- The frame buffer is in canonical form, within `buf[0..7]` (R46). -/
  bufWf : Memory.wf s.buf = true
  /-- `status` holds one of its two values (R13). -/
  statusLegal : s.status = Config.statusOk ∨ s.status = Config.statusErr
  /-- `res_ok = 1` implies `res_cause = NONE` (R17). -/
  okHasNoCause : s.resOk = true → s.resCause = .none
  /-- After a completed operation `res_ok = 0` implies `res_cause ≠ NONE` (R17); `cur_op` is 0 only after reset and
  after the refused code 0. -/
  failureHasCause : s.busy = false → s.curOp ≠ 0 → s.resOk = false → s.resCause ≠ .none
  /-- Between operations the parser is in `P_IDLE` (R151, R180). -/
  idleParser : s.busy = false → s.pstate = .idle
  /-- While an operation runs the result registers are as the prologue left them (R150). -/
  resultsCleared : s.busy = true → s.resOk = false ∧ s.resCause = .none ∧ NoPayload s
  /-- `res_n` and `res_data` (R18). -/
  payload : PayloadPadded s
  /-- An operation in progress is in its writes or in a read (R153, R155). -/
  writeDue : s.busy = true → s.pstate = .idle → WriteDue s
  /-- A read in progress belongs to RECV, READPM or INIT. -/
  readOwner : s.pstate ≠ .idle → ReadOwner s
  /-- The parser's registers during a read (R21). -/
  parser : ParserInv s

/-- The six command codes (R66). -/
def commandCodes : List Byte := [0x01, 0x02, 0x04, 0x08, 0x20, 0x40]

/-- The bytes of a frame with command `c`, data `ds` and checksum byte `k`, offset by offset (R60). -/
def frameBytes (c : Byte) (ds : List Byte) (k : Byte) : List Byte :=
  [0x40, BitVec.ofNat 8 (1 + ds.length), c] ++ ds ++ [k]

/-- The next input is the reset input. -/
def resetNext (s : State) : Bool := s.inputs.head? == some .reset

/-- `n` steps of the machine. -/
def runSteps (n : Nat) (s : State) : Result := Host.Core.run Sys2Proof.core n s

/-- The engine left to itself: the inputs still to come taken away. -/
def alone (s : State) : State := { s with inputs := [] }

/-- From `s`, bytes received come to `t` just as the engine's own poll steps do on the answers behind which the bytes have been
put (R42, R122): outside a read none is made, and inside one they go on until the read has ended or nothing waits any more. -/
def ReceivedAsPolled (s : State) (bytes : List Byte) (t : State) : Prop :=
  (t.pstate = .idle ∨ t.rx = []) ∧ t.inputs = s.inputs ∧
    ∃ n : Nat, n ≤ s.rx.length + bytes.length ∧ (s.pstate = .idle → n = 0) ∧
      runSteps n { alone s with rx := s.rx ++ bytes.map some } = .next (alone t)

/-- A run that never stops on a fault, however long. -/
def NeverFaults (s : State) : Prop := ∀ n f, runSteps n s ≠ .fault f

end Sys2Proof.Machine
end

