-- ==== Sys2Proof/Certificates/Slice0/Obligations.lean ====
section
/-!
DEFINITION. The statements for the provers. A state update written out in full says what changes and, by what it does not
name, what does not. Fields of the model's own that appear in them: `tx` (the TX log, log 3), `rx` and `polls` (the
transport's answers and the polls made, log 2 and log 5), `inputs` (log 6), `readBudget` (log 1), `rdata` (log 4).
-/

open Sys2Proof Sys2Proof.Machine

/-! ### The command encoder -/

/-- R103, R104: a legal SEND, issued with busy = 0, writes one frame, valid for its command byte and with the first `nparam`
parameter bytes as data; it updates the mode, reports success, sets `cur_op` to 1 and `phase` to 0 as its prologue does (R150),
and changes nothing else. That the whole SEND is one step, so that no step shows busy = 1, is log 7 (DEDUCED); that `phase` is
still 0 after it is log 14 (DEDUCED). -/
def Obligations.SendWritesOneValidFrame : Prop :=
  ∀ (s : State) (cmd : Byte) (n : BitVec 3) (p0 p1 p2 p3 : Byte),
    s.busy = false → cmd ∈ commandCodes → n.toNat ≤ 4 →
    ∃ f : List Byte, validFrameFor f cmd = true ∧ f.length = n.toNat + 4 ∧
      (f.drop 3).dropLast = [p0, p1, p2, p3].take n.toNat ∧
      exec (.send cmd n p0 p1 p2 p3) s = .next
        { s with
          tx := s.tx ++ f
          mode := if cmd = 0x01 ∨ cmd = 0x40 then .measuring else if cmd = 0x02 ∨ cmd = 0x20 then .stopped else s.mode
          resOk := true, resCause := .none, resN := 0, resData := ⟨0, 0, 0, 0⟩, curOp := 0x1, phase := .startFrame }

/-- R103, R187: an illegal SEND is refused. What `phase` holds after a refusal is left open here (log 13). -/
def Obligations.IllegalSendIsRefused : Prop :=
  ∀ (s : State) (cmd : Byte) (n : BitVec 3) (p0 p1 p2 p3 : Byte),
    s.busy = false → cmd ∉ commandCodes ∨ 4 < n.toNat →
    ∃ ph : Phase, exec (.send cmd n p0 p1 p2 p3) s = .next
      { s with
        resOk := false, resCause := .illegalOp, resN := 0, resData := ⟨0, 0, 0, 0⟩, curOp := 0x1, phase := ph }

/-- R105 to R108, R150: START, STOP, ENAUTO and DISAUTO, issued with busy = 0, each write their fixed frame, set the mode from
any mode, report success, set `cur_op` to their operation code and `phase` to 0, and change nothing else. That each is one step
is log 7 (DEDUCED); that `phase` is still 0 after it is log 14 (DEDUCED). -/
def Obligations.NamedCommandsWriteFixedFrames : Prop :=
  ∀ s : State, s.busy = false →
    exec .start s = .next
      { s with
        tx := s.tx ++ [0x40, 0x01, 0x01, 0xBE], mode := .measuring, resOk := true, resCause := .none, resN := 0
        resData := ⟨0, 0, 0, 0⟩, curOp := 0x3, phase := .startFrame } ∧
    exec .stop s = .next
      { s with
        tx := s.tx ++ [0x40, 0x01, 0x02, 0xBD], mode := .stopped, resOk := true, resCause := .none, resN := 0
        resData := ⟨0, 0, 0, 0⟩, curOp := 0x4, phase := .startFrame } ∧
    exec .enauto s = .next
      { s with
        tx := s.tx ++ [0x40, 0x01, 0x40, 0x7F], mode := .measuring, resOk := true, resCause := .none, resN := 0
        resData := ⟨0, 0, 0, 0⟩, curOp := 0x5, phase := .startFrame } ∧
    exec .disauto s = .next
      { s with
        tx := s.tx ++ [0x40, 0x01, 0x20, 0x9F], mode := .stopped, resOk := true, resCause := .none, resN := 0
        resData := ⟨0, 0, 0, 0⟩, curOp := 0x6, phase := .startFrame }

/-- R76: each of START, STOP, ENAUTO and DISAUTO ends in the state its expansion `SEND c, []` ends in, but for `cur_op`. -/
def Obligations.NamedCommandsAreSendUpToCurOp : Prop :=
  ∀ (s : State) (p0 p1 p2 p3 : Byte),
    ∀ ic ∈ [(Instr.start, (0x01 : Byte)), (.stop, 0x02), (.enauto, 0x40), (.disauto, 0x20)],
      ∃ t u : State, exec ic.1 s = .next t ∧ exec (.send ic.2 0 p0 p1 p2 p3) s = .next u ∧
        t = { u with curOp := t.curOp }

/-! ### Starting a read, refusals, ignored operations -/

/-- R120, R121, R150: the start step of a legal RECV issued with busy = 0. That `phase` is 0 while the read of a RECV runs,
where R21 gives phase 3 as 'a read', is the model's reading: log 14 (DEDUCED). -/
def Obligations.RecvStartsRead : Prop :=
  ∀ (s : State) (cmd : Byte) (bud : Half), s.busy = false → cmd ∈ commandCodes →
    exec (.recv cmd bud) s = .next
      { s with
        busy := true, resOk := false, resCause := .none, resN := 0, resData := ⟨0, 0, 0, 0⟩, curOp := 0x2
        phase := .startFrame, expect := cmd, budget := bud, pstate := .hunt, idx := 0, sum := 0, len := 0 }

/-- R120, R187: an illegal RECV is refused. What `phase` holds after a refusal is left open here (log 13). -/
def Obligations.IllegalRecvIsRefused : Prop :=
  ∀ (s : State) (cmd : Byte) (bud : Half), s.busy = false → cmd ∉ commandCodes →
    ∃ ph : Phase, exec (.recv cmd bud) s = .next
      { s with
        resOk := false, resCause := .illegalOp, resN := 0, resData := ⟨0, 0, 0, 0⟩, curOp := 0x2, phase := ph }

/-- R73, R187: the five reserved operation codes are refused. What `phase` holds after a refusal is left open (log 13). -/
def Obligations.ReservedCodesAreRefused : Prop :=
  ∀ s : State, s.busy = false →
    ∀ ic ∈ [(Instr.reserved0, (0x0 : BitVec 4)), (.reservedC, 0xC), (.reservedD, 0xD), (.reservedE, 0xE),
        (.reservedF, 0xF)],
      ∃ ph : Phase, exec ic.1 s = .next
        { s with
          resOk := false, resCause := .illegalOp, resN := 0, resData := ⟨0, 0, 0, 0⟩, curOp := ic.2, phase := ph }

/-- R188: a non-accessor operation presented while busy = 1 changes nothing; so does a reserved code (R150). Accessors are
not affected. -/
def Obligations.BusyEngineIgnoresNonAccessors : Prop :=
  ∀ s : State, s.busy = true →
    (∀ (cmd : Byte) (n : BitVec 3) (p0 p1 p2 p3 : Byte), exec (.send cmd n p0 p1 p2 p3) s = .next s) ∧
    (∀ (cmd : Byte) (bud : Half), exec (.recv cmd bud) s = .next s) ∧
    (∀ i ∈ [Instr.start, .stop, .enauto, .disauto, .readpm, .init, .reserved0, .reservedC, .reservedD, .reservedE,
        .reservedF], exec i s = .next s) ∧
    exec .getpm25 s = .next { s with rdata := s.pm25 } ∧ exec .getpm10 s = .next { s with rdata := s.pm10 } ∧
    exec .status s = .next { s with rdata := s.status.setWidth 16 }

/-- R156 to R158: an accessor puts the register's value on rdata and changes nothing else, busy or not. -/
def Obligations.AccessorsReturnRegisters : Prop :=
  ∀ s : State,
    exec .getpm25 s = .next { s with rdata := s.pm25 } ∧
    exec .getpm10 s = .next { s with rdata := s.pm10 } ∧
    exec .status s = .next { s with rdata := s.status.setWidth 16 }

/-! ### The poll step, state by state

In each statement `rx` and `polls` are the model's record of the transport, not engine state: one answer used up and one
poll counted wherever the rule makes a poll (log 2, log 5). -/

/-- R123: a poll that answers None changes only `budget` (and uses up one answer of the transport). -/
def Obligations.EmptyPollChangesOnlyBudget : Prop :=
  ∀ s : State, s.inputs = [] → s.pstate ≠ .idle → s.budget ≠ 0 → s.answer 0 = none →
    step s = .next { s with budget := s.budget - 1, rx := s.rx.drop 1, polls := s.polls + 1 }

/-- R124: a byte other than the head is dropped in P_HUNT. -/
def Obligations.StrayByteIsDropped : Prop :=
  ∀ (s : State) (b : Byte), s.inputs = [] → s.pstate = .hunt → s.budget ≠ 0 → s.answer 0 = some b → b ≠ 0x40 →
    step s = .next { s with budget := s.budget - 1, rx := s.rx.drop 1, polls := s.polls + 1 }

/-- R125: the head byte begins the candidate frame. -/
def Obligations.HeadByteBeginsCandidate : Prop :=
  ∀ s : State, Memory.wf s.buf = true → s.inputs = [] → s.pstate = .hunt → s.budget ≠ 0 → s.answer 0 = some 0x40 →
    ∃ m : Memory, (∀ i, cellGet m i = if i = 0 then 0x40 else s.bufAt i) ∧
      step s = .next
        { s with
          budget := s.budget - 1, rx := s.rx.drop 1, polls := s.polls + 1
          buf := m, sum := 0x40, idx := 1, pstate := .len }

/-- R126: a length byte outside 1 .. 5 fails with LENGTH at once; a legal one is taken. -/
def Obligations.LengthByteIsTakenOrFails : Prop :=
  ∀ (s : State) (b : Byte), Memory.wf s.buf = true → s.inputs = [] → s.pstate = .len → s.budget ≠ 0 → s.answer 0 = some b →
    (b.toNat < 1 ∨ 5 < b.toNat →
      step s = .next
        { s with
          budget := s.budget - 1, rx := s.rx.drop 1, polls := s.polls + 1
          status := 0x01, resOk := false, resCause := .length, resN := 0, resData := ⟨0, 0, 0, 0⟩, pstate := .idle
          busy := false }) ∧
    (1 ≤ b.toNat ∧ b.toNat ≤ 5 →
      ∃ m : Memory, (∀ i, cellGet m i = if i = 1 then b else s.bufAt i) ∧
        step s = .next
          { s with
            budget := s.budget - 1, rx := s.rx.drop 1, polls := s.polls + 1
            buf := m, len := b, sum := s.sum + b, idx := 2, pstate := .cmd })

/-- R127: the command byte is stored and summed; the next state depends on the length only. -/
def Obligations.CommandByteIsStored : Prop :=
  ∀ (s : State) (b : Byte), Memory.wf s.buf = true → s.inputs = [] → s.pstate = .cmd → s.budget ≠ 0 → s.answer 0 = some b →
    ∃ m : Memory, (∀ i, cellGet m i = if i = 2 then b else s.bufAt i) ∧
      step s = .next
        { s with
          budget := s.budget - 1, rx := s.rx.drop 1, polls := s.polls + 1
          buf := m, sum := s.sum + b, idx := 3, pstate := if s.len = 1 then .csum else .data }

/-- R128: a data byte is stored at `idx` and summed; the checksum is next when the new `idx` is `len + 2`. -/
def Obligations.DataByteIsStored : Prop :=
  ∀ (s : State) (b : Byte), Memory.wf s.buf = true → s.inputs = [] → s.pstate = .data → s.idx.toNat < 8 → s.budget ≠ 0 →
    s.answer 0 = some b →
    ∃ m : Memory, (∀ i, cellGet m i = if i = s.idx.toNat then b else s.bufAt i) ∧
      step s = .next
        { s with
          budget := s.budget - 1, rx := s.rx.drop 1, polls := s.polls + 1
          buf := m, sum := s.sum + b, idx := s.idx + 1
          pstate := if s.idx.toNat + 1 = s.len.toNat + 2 then .csum else .data }

/-- R129, R130, R136, R152, R186: the checksum byte is stored and ends the read: the first failing check in the order
checksum, command, measurement shape decides the failure, and a frame that passes all of them is committed by RECV (payload
registers only) or by READPM and INIT (the two readings as well). The two commits are told apart by `cur_op` = RECV, as R130
check 3 is: that a `cur_op` which is none of the three commits as a measurement, and what `res_n` is for a `len` outside 1 .. 5,
in states no run reaches, is log 18 (DESIGN CHOICE). -/
def Obligations.ChecksumByteEndsRead : Prop :=
  ∀ (s : State) (b : Byte), Memory.wf s.buf = true → s.inputs = [] → s.pstate = .csum → s.idx.toNat < 8 → s.budget ≠ 0 →
    s.answer 0 = some b →
    ∃ m : Memory, (∀ i, cellGet m i = if i = s.idx.toNat then b else s.bufAt i) ∧
      let u : State :=
        { s with
          budget := s.budget - 1, rx := s.rx.drop 1, polls := s.polls + 1, buf := m, pstate := .idle, busy := false }
      let failed (c : Cause) : State :=
        { u with status := 0x01, resOk := false, resCause := c, resN := 0, resData := ⟨0, 0, 0, 0⟩ }
      let datum (i : Nat) : Byte := if i + 1 < s.len.toNat then cellGet m (3 + i) else 0
      step s = .next (
        if s.sum + b ≠ 0 then failed .checksum
        else if cellGet m 2 ≠ s.expect then failed .command
        else if s.curOp ≠ 0x2 ∧ s.len ≠ 5 then failed .length
        else if s.curOp = 0x2 then
          { u with
            status := 0x00, resOk := true, resCause := .none, resN := (s.len - 1).setWidth 3
            resData := ⟨datum 0, datum 1, datum 2, datum 3⟩ }
        else
          { u with
            pm25 := cellGet m 3 ++ cellGet m 4
            pm10 := cellGet m 5 ++ cellGet m 6
            status := 0x00, resOk := true, resCause := .none, resN := 4
            resData := ⟨cellGet m 3, cellGet m 4, cellGet m 5, cellGet m 6⟩ })

/-- R131: with no budget left where a poll is needed, the read fails: TIMEOUT in P_HUNT, LENGTH after a head. No poll. -/
def Obligations.ExhaustedBudgetFails : Prop :=
  ∀ s : State, s.inputs = [] → s.pstate ≠ .idle → s.budget = 0 →
    step s = .next
      { s with
        status := 0x01, resOk := false, resCause := if s.pstate = .hunt then .timeout else .length
        resN := 0, resData := ⟨0, 0, 0, 0⟩, pstate := .idle, busy := false }

/-- R132, R133: the engine's own steps move `pstate` along the edges of the transition table only (the pairs of equal states
are polls that answered None, and an idle engine); in particular none leads back to P_HUNT. -/
def Obligations.ParserFollowsTransitionTable : Prop :=
  ∀ s t : State, s.inputs = [] → step s = .next t →
    (s.pstate, t.pstate) ∈
      [(PState.idle, PState.idle), (.idle, .hunt), (.hunt, .hunt), (.hunt, .len), (.hunt, .idle), (.len, .len),
        (.len, .cmd), (.len, .idle), (.cmd, .cmd), (.cmd, .csum), (.cmd, .data), (.cmd, .idle), (.data, .data),
        (.data, .csum), (.data, .idle), (.csum, .csum), (.csum, .idle)]

/-! ### Whole reads -/

/-- R135: the byte-level machine computes the closed form `parse` of the poll answers. From a read that hunts for its head,
the engine's own steps end it with the outcome and the number of polls of `parse`; a success commits the data, and a failure
only the cause. -/
def Obligations.ByteMachineComputesClosedForm : Prop :=
  ∀ s : State, Inv s → s.inputs = [] → s.pstate = .hunt →
    ∃ (n : Nat) (t : State), n ≤ s.budget.toNat + 1 ∧ runSteps n s = .next t ∧ t.busy = false ∧ t.pstate = .idle ∧
      t.polls = s.polls + (parse s.answer s.expect s.budget.toNat (s.curOp != 0x2)).2 ∧
      t.rx = s.rx.drop (parse s.answer s.expect s.budget.toNat (s.curOp != 0x2)).2 ∧
      t.tx = s.tx ∧ t.mode = s.mode ∧ t.curOp = s.curOp ∧ t.phase = s.phase ∧ t.expect = s.expect ∧
      t.readBudget = s.readBudget ∧ t.rdata = s.rdata ∧ t.inputs = [] ∧ Memory.wf t.buf = true ∧
      match (parse s.answer s.expect s.budget.toNat (s.curOp != 0x2)).1 with
      | .ok d =>
        t.status = 0x00 ∧ t.resOk = true ∧ t.resCause = .none ∧ t.resN.toNat = d.length ∧
        t.resData = ⟨d.getD 0 0, d.getD 1 0, d.getD 2 0, d.getD 3 0⟩ ∧
        (s.curOp = 0x2 → t.pm25 = s.pm25 ∧ t.pm10 = s.pm10) ∧
        (s.curOp ≠ 0x2 →
          t.pm25.toNat = (d.getD 0 0).toNat * 256 + (d.getD 1 0).toNat ∧
          t.pm10.toNat = (d.getD 2 0).toNat * 256 + (d.getD 3 0).toNat)
      | .fail c =>
        t.status = 0x01 ∧ t.resOk = false ∧ t.resCause = c ∧ t.resN = 0 ∧ t.resData = ⟨0, 0, 0, 0⟩ ∧
        t.pm25 = s.pm25 ∧ t.pm10 = s.pm10

/-- R135 (iii): an answer None put anywhere among the polls of a read, with a budget one larger, changes no outcome. -/
def Obligations.GapCostsOnePollOnly : Prop :=
  ∀ (a : Nat → Option Byte) (e : Byte) (B j : Nat) (m : Bool), j ≤ B →
    (parse (fun k => if k < j then a k else if k = j then none else a (k - 1)) e (B + 1) m).1 = (parse a e B m).1

/-- R153, R152: READPM whole, on the nominal answers: any four data bytes in a frame with the right checksum, at the head of
the answers, and a READ_BUDGET of at least 8. The start step is exec's; the write and the eight polls are the engine's. The
count of nine steps is log 7, `phase` = 3 after the read log 14, and that the parser registers (R21) keep their last values
log 15, all DEDUCED. -/
def Obligations.ReadpmStoresMeasurement : Prop :=
  ∀ (s : State) (a b d e : Byte) (rest : List (Option Byte)),
    Memory.wf s.buf = true → s.busy = false → s.pstate = .idle → s.inputs = [] → 8 ≤ s.readBudget.toNat →
    s.rx = (frameBytes 0x04 [a, b, d, e] (-(0x49 + a + b + d + e))).map some ++ rest →
    ∃ (s1 t : State) (m : Memory), exec .readpm s = .next s1 ∧ runSteps 9 s1 = .next t ∧
      t.pm25.toNat = a.toNat * 256 + b.toNat ∧ t.pm10.toNat = d.toNat * 256 + e.toNat ∧
      (∀ i, cellGet m i = ([0x40, 0x05, 0x04, a, b, d, e, -(0x49 + a + b + d + e)][i]?).getD (s.bufAt i)) ∧
      t = { s with
        pm25 := t.pm25, pm10 := t.pm10, status := 0x00, resOk := true, resCause := .none, resN := 4
        resData := ⟨a, b, d, e⟩, curOp := 0x7, phase := .reading, expect := 0x04, budget := s.readBudget - 8
        idx := 7, len := 5, sum := 0x49 + a + b + d + e, buf := m, tx := s.tx ++ [0x40, 0x01, 0x04, 0xBB]
        rx := rest, polls := s.polls + 8 }

/-- R153: the steps of READPM up to its first poll: the start step, then one TxWrite of the CMD_READ frame with which the
read starts; nothing is polled and the mode is unchanged. -/
def Obligations.ReadpmWritesThenHunts : Prop :=
  ∀ s : State, s.busy = false → s.inputs = [] →
    ∃ s1 : State, exec .readpm s = .next s1 ∧
      s1 = { s with
        busy := true, resOk := false, resCause := .none, resN := 0, resData := ⟨0, 0, 0, 0⟩, curOp := 0x7
        phase := .readFrame } ∧
      (s.pstate = .idle → step s1 = .next
        { s1 with
          tx := s.tx ++ [0x40, 0x01, 0x04, 0xBB], phase := .reading, expect := 0x04, budget := s.readBudget
          pstate := .hunt, idx := 0, sum := 0, len := 0 })

/-- R155: the steps of INIT up to its first poll: the start step, then three TxWrites; the mode is MEASURING whatever the read
that follows comes to. -/
def Obligations.InitWritesThreeFramesThenHunts : Prop :=
  ∀ s : State, s.busy = false → s.inputs = [] →
    ∃ s1 : State, exec .init s = .next s1 ∧
      s1 = { s with
        busy := true, resOk := false, resCause := .none, resN := 0, resData := ⟨0, 0, 0, 0⟩, curOp := 0x8
        phase := .startFrame } ∧
      (s.pstate = .idle →
        runSteps 1 s1 = .next
          { s1 with tx := s.tx ++ [0x40, 0x01, 0x01, 0xBE], mode := .measuring, phase := .autoFrame } ∧
        runSteps 3 s1 = .next
          { s1 with
            tx := s.tx ++ [0x40, 0x01, 0x01, 0xBE, 0x40, 0x01, 0x40, 0x7F, 0x40, 0x01, 0x04, 0xBB]
            mode := .measuring, phase := .reading, expect := 0x04, budget := s.readBudget
            pstate := .hunt, idx := 0, sum := 0, len := 0 })

/-- R155, R152: INIT whole, on the nominal answers, as for READPM. The count of eleven steps is log 7, `phase` = 3 after the
read log 14, and that the parser registers (R21) keep their last values log 15, all DEDUCED. -/
def Obligations.InitStoresMeasurement : Prop :=
  ∀ (s : State) (a b d e : Byte) (rest : List (Option Byte)),
    Memory.wf s.buf = true → s.busy = false → s.pstate = .idle → s.inputs = [] → 8 ≤ s.readBudget.toNat →
    s.rx = (frameBytes 0x04 [a, b, d, e] (-(0x49 + a + b + d + e))).map some ++ rest →
    ∃ (s1 t : State) (m : Memory), exec .init s = .next s1 ∧ runSteps 11 s1 = .next t ∧
      t.pm25.toNat = a.toNat * 256 + b.toNat ∧ t.pm10.toNat = d.toNat * 256 + e.toNat ∧
      (∀ i, cellGet m i = ([0x40, 0x05, 0x04, a, b, d, e, -(0x49 + a + b + d + e)][i]?).getD (s.bufAt i)) ∧
      t = { s with
        pm25 := t.pm25, pm10 := t.pm10, status := 0x00, mode := .measuring, resOk := true, resCause := .none
        resN := 4, resData := ⟨a, b, d, e⟩, curOp := 0x8, phase := .reading, expect := 0x04
        budget := s.readBudget - 8, idx := 7, len := 5, sum := 0x49 + a + b + d + e, buf := m
        tx := s.tx ++ [0x40, 0x01, 0x01, 0xBE, 0x40, 0x01, 0x40, 0x7F, 0x40, 0x01, 0x04, 0xBB]
        rx := rest, polls := s.polls + 8 }

/-- R121, R136: RECV whole, on the nominal answers: a frame for the expected command with up to four data bytes and the right
checksum at the head of the answers. The readings, the mode and the TX log are as before. `phase` = 0 after it is log 14, and
that the parser registers (R21) keep their last values log 15, both DEDUCED. -/
def Obligations.RecvReturnsPayload : Prop :=
  ∀ (s : State) (cmd : Byte) (bud : Half) (ds : List Byte) (rest : List (Option Byte)),
    Memory.wf s.buf = true → s.busy = false → s.inputs = [] → cmd ∈ commandCodes → ds.length ≤ 4 →
    ds.length + 4 ≤ bud.toNat →
    s.rx = (frameBytes cmd ds (csum8 ([0x40, BitVec.ofNat 8 (1 + ds.length), cmd] ++ ds))).map some ++ rest →
    let body : List Byte := [0x40, BitVec.ofNat 8 (1 + ds.length), cmd] ++ ds
    ∃ (s1 t : State) (m : Memory), exec (.recv cmd bud) s = .next s1 ∧ runSteps (ds.length + 4) s1 = .next t ∧
      (∀ i, cellGet m i = ((body ++ [csum8 body])[i]?).getD (s.bufAt i)) ∧
      t = { s with
        status := 0x00, resOk := true, resCause := .none, resN := BitVec.ofNat 3 ds.length
        resData := ⟨ds.getD 0 0, ds.getD 1 0, ds.getD 2 0, ds.getD 3 0⟩, curOp := 0x2, phase := .startFrame
        pstate := .idle, expect := cmd, budget := bud - BitVec.ofNat 16 (ds.length + 4)
        idx := BitVec.ofNat 4 (ds.length + 3), len := BitVec.ofNat 8 (1 + ds.length), sum := sum8 body, buf := m
        rx := rest, polls := s.polls + (ds.length + 4) }

/-- R139: a read in progress ends by the engine's own steps, after at most `budget` polls and one step more, whatever the
transport answers. -/
def Obligations.ReadEndsWithinBudget : Prop :=
  ∀ s : State, Inv s → s.inputs = [] → s.pstate ≠ .idle →
    ∃ (n : Nat) (t : State), n ≤ s.budget.toNat + 1 ∧ runSteps n s = .next t ∧ t.busy = false ∧ t.pstate = .idle ∧
      t.polls ≤ s.polls + s.budget.toNat

/-- R151, R139: an operation in progress always reaches its epilogue. The bound on the steps is three TxWrites and a read. -/
def Obligations.EveryOperationEnds : Prop :=
  ∀ s : State, Inv s → s.inputs = [] → s.busy = true →
    ∃ (n : Nat) (t : State), n ≤ s.budget.toNat + s.readBudget.toNat + 4 ∧ runSteps n s = .next t ∧ t.busy = false ∧
      t.pstate = .idle ∧ (t.resOk = true ↔ t.resCause = .none) ∧ (t.status = 0x00 ↔ t.resOk = true)

/-- R93, R135 (ii): a read that succeeds at its checksum byte holds in `buf` a valid frame for the command it expects, and the
payload registers are that frame's data bytes. -/
def Obligations.AcceptedCandidateIsValidFrame : Prop :=
  ∀ s t : State, Inv s → s.inputs = [] → s.pstate = .csum → step s = .next t → t.resOk = true →
    ∃ f : List Byte, f = (List.range (s.len.toNat + 3)).map t.bufAt ∧ validFrameFor f s.expect = true ∧
      (s.curOp ≠ 0x2 → validMeasurement f = true) ∧
      [t.resData.d0, t.resData.d1, t.resData.d2, t.resData.d3].take t.resN.toNat = (f.drop 3).dropLast

/-! ### Invariants and safety -/

/-- The invariant of the registers (R13, R17, R18, R21, R46, R151) holds after every step from a state in which it holds,
whatever the input. -/
def Obligations.EveryStepKeepsInvariant : Prop :=
  ∀ s t : State, Inv s → step s = .next t → Inv t

/-- The invariant holds at reset. -/
def Obligations.InvariantHoldsAtReset : Prop := Inv State.reset

/-- R46, R180: from a state that meets the invariant no run ever faults, whatever the inputs and the transport's answers: no
access to `buf` is out of bounds and the engine always has a step. -/
def Obligations.InvariantStatesNeverFault : Prop := ∀ s : State, Inv s → NeverFaults s

/-- R46, R210: from reset, with any inputs, any answers and any READ_BUDGET, no run ever faults. -/
def Obligations.RunsFromResetNeverFault : Prop :=
  ∀ (evs : List Event) (answers : List (Option Byte)) (b : Half),
    NeverFaults { State.reset with inputs := evs, rx := answers, readBudget := b }

/-- The model's only refusal is of bytes offered on the TX side that are no valid frame for any of the six command codes, so that
the encoder does not build them (R95, R100; log 9): every input of the host, every byte received and every frame the encoder
builds has an effect. -/
def Obligations.OnlyForeignTxBytesAreRefused : Prop :=
  ∀ (s : State) (r : Refusal), step s = .refused r →
    r = .neverTransmitted ∧ ∃ (bytes : List Byte) (rest : List Event), s.inputs = .link .tx bytes :: rest ∧
      ¬ ∃ c ∈ commandCodes, validFrameFor bytes c = true

/-! ### Rules of the whole machine -/

/-- R11, R12, R154: a step that is no reset changes `pm2_5` or `pm10` only as the success commit of READPM or INIT, with which
`status`, the result registers and `busy` change too. -/
def Obligations.ReadingsChangeOnlyOnSuccess : Prop :=
  ∀ s t : State, Inv s → resetNext s = false → step s = .next t → t.pm25 ≠ s.pm25 ∨ t.pm10 ≠ s.pm10 →
    (s.curOp = 0x7 ∨ s.curOp = 0x8) ∧ s.pstate ≠ .idle ∧ t.pstate = .idle ∧ s.busy = true ∧ t.busy = false ∧
      t.status = 0x00 ∧ t.resOk = true ∧ t.resCause = .none ∧ t.resN = 4 ∧
      t.pm25 = t.resData.d0 ++ t.resData.d1 ∧ t.pm10 = t.resData.d2 ++ t.resData.d3

/-- R13: a step that is no reset writes `status` only where it ends a read, and then with the read's result. -/
def Obligations.StatusChangesOnlyWhenReadEnds : Prop :=
  ∀ s t : State, resetNext s = false → step s = .next t → t.status ≠ s.status →
    s.pstate ≠ .idle ∧ t.pstate = .idle ∧ t.busy = false ∧ (t.status = 0x00 ∧ t.resOk = true ∨
      t.status = 0x01 ∧ t.resOk = false)

/-- R160: a step that is no reset changes `mode` only with a command frame it writes, to what the command byte says; so nothing
but reset returns to IDLE. -/
def Obligations.ModeChangesOnlyWithCommandFrame : Prop :=
  ∀ s t : State, resetNext s = false → step s = .next t → t.mode ≠ s.mode →
    ∃ (c : Byte) (f : List Byte), t.tx = s.tx ++ f ∧ validFrameFor f c = true ∧
      (t.mode = .measuring ∧ (c = 0x01 ∨ c = 0x40) ∨ t.mode = .stopped ∧ (c = 0x02 ∨ c = 0x20))

/-- R41, R95: whatever step writes to TX is nothing or one whole valid frame with one of the six command codes, behind what was
written before; and while a read is in progress nothing is written, whatever the input (R40, R51, R122). -/
def Obligations.TxGrowsByOneValidFrame : Prop :=
  ∀ s t : State, step s = .next t →
    ∃ f : List Byte, t.tx = s.tx ++ f ∧ (f = [] ∨ ∃ c ∈ commandCodes, validFrameFor f c = true) ∧
      (Inv s → s.pstate ≠ .idle → f = [])

/-- R43, R193: a step polls only inside a read, writes nothing to TX with it, and each poll costs one of the budget. -/
def Obligations.PollsOnlyInsideReadAndCostBudget : Prop :=
  ∀ s t : State, step s = .next t → t.polls ≠ s.polls →
    s.pstate ≠ .idle ∧ t.tx = s.tx ∧ t.polls + t.budget.toNat = s.polls + s.budget.toNat

/-- R161: `mode` gates nothing. Two states that differ in `mode` only step to states that differ in `mode` only, unless the
step is the host reading `mode` itself (CR3). -/
def Obligations.ModeGatesNothing : Prop :=
  ∀ (s t : State) (m : Mode), s.inputs.head? ≠ some (.readReg .cr3) → step s = .next t →
    ∃ m' : Mode, step { s with mode := m } = .next { t with mode := m' }

/-! ### Frames on the wire -/

/-- R70, R104, R40 (log 8): each of the six fixed command frames, as an instruction on the TX side, is the SEND without parameters
that writes it, busy or not; with busy = 0 its four bytes are appended to TX and the mode and the result are a SEND's. That it
is one step is log 7, `phase` = 0 after it log 14 (DEDUCED). -/
def Obligations.FixedFramesAreWritten : Prop :=
  ∀ (s : State) (p0 p1 p2 p3 : Byte),
    (∀ ic ∈ [(Instr.frameCmdStart, (0x01 : Byte)), (.frameCmdStop, 0x02), (.frameCmdRead, 0x04),
        (.frameCmdCoeffNodata, 0x08), (.frameCmdStopAuto, 0x20), (.frameCmdEnAuto, 0x40)],
      exec ic.1 s = exec (.send ic.2 0 p0 p1 p2 p3) s) ∧
    (s.busy = false →
      let sent (f : List Byte) (m : Mode) : State :=
        { s with
          tx := s.tx ++ f, mode := m, resOk := true, resCause := .none, resN := 0, resData := ⟨0, 0, 0, 0⟩, curOp := 0x1
          phase := .startFrame }
      exec .frameCmdStart s = .next (sent [0x40, 0x01, 0x01, 0xBE] .measuring) ∧
      exec .frameCmdStop s = .next (sent [0x40, 0x01, 0x02, 0xBD] .stopped) ∧
      exec .frameCmdRead s = .next (sent [0x40, 0x01, 0x04, 0xBB] s.mode) ∧
      exec .frameCmdCoeffNodata s = .next (sent [0x40, 0x01, 0x08, 0xB7] s.mode) ∧
      exec .frameCmdStopAuto s = .next (sent [0x40, 0x01, 0x20, 0x9F] .stopped) ∧
      exec .frameCmdEnAuto s = .next (sent [0x40, 0x01, 0x40, 0x7F] .measuring))

/-- R100, R104, R40 (log 8): a generic frame on the TX side with a command code of R66 and a total of 0 modulo 256 is the SEND
whose frame it is, busy or not; with busy = 0 it is appended to TX byte for byte and the mode and the result are a SEND's. That
it is one step is log 7, `phase` = 0 after it log 14 (DEDUCED). -/
def Obligations.BuiltFramesAreWritten : Prop :=
  ∀ (s : State) (c a b d e k : Byte), c ∈ commandCodes →
    let sent (f : List Byte) : State :=
      { s with
        tx := s.tx ++ f
        mode := if c = 0x01 ∨ c = 0x40 then .measuring else if c = 0x02 ∨ c = 0x20 then .stopped else s.mode
        resOk := true, resCause := .none, resN := 0, resData := ⟨0, 0, 0, 0⟩, curOp := 0x1, phase := .startFrame }
    (0x41 + c + k = 0 →
      exec (.frameLen1 .tx c k) s = exec (.send c 0 a b d e) s ∧
      (s.busy = false → exec (.frameLen1 .tx c k) s = .next (sent [0x40, 1, c, k]))) ∧
    (0x42 + c + a + k = 0 →
      exec (.frameLen2 .tx c a k) s = exec (.send c 1 a b d e) s ∧
      (s.busy = false → exec (.frameLen2 .tx c a k) s = .next (sent [0x40, 2, c, a, k]))) ∧
    (0x43 + c + a + b + k = 0 →
      exec (.frameLen3 .tx c a b k) s = exec (.send c 2 a b d e) s ∧
      (s.busy = false → exec (.frameLen3 .tx c a b k) s = .next (sent [0x40, 3, c, a, b, k]))) ∧
    (0x44 + c + a + b + d + k = 0 →
      exec (.frameLen4 .tx c a b d k) s = exec (.send c 3 a b d e) s ∧
      (s.busy = false → exec (.frameLen4 .tx c a b d k) s = .next (sent [0x40, 4, c, a, b, d, k]))) ∧
    (0x45 + c + a + b + d + e + k = 0 →
      exec (.frameLen5 .tx c a b d e k) s = exec (.send c 4 a b d e) s ∧
      (s.busy = false → exec (.frameLen5 .tx c a b d e k) s = .next (sent [0x40, 5, c, a, b, d, e, k])))

/-- R69, R100 (log 9): a generic frame on the TX side with a reserved command byte, or whose bytes do not sum to 0 modulo 256, is
one the encoder never builds: refused by name. -/
def Obligations.ForeignTxFramesAreRefused : Prop :=
  ∀ (s : State) (i : Instr) (bytes : List Byte) (c : Byte), encode i = .frame .tx bytes → bytes[2]? = some c →
    c ∉ commandCodes ∨ sum8 bytes ≠ 0 → exec i s = .refused .neverTransmitted

/-- R43 (log 8): outside a read a received frame, good or bad, waits in the transport behind what waits there; nothing else
changes. That the transport keeps all of it is log 22 (DESIGN CHOICE). -/
def Obligations.ReceivedFrameWaitsOutsideRead : Prop :=
  ∀ (s : State) (c a b d e k : Byte), s.pstate = .idle →
    exec (.frameLen1 .rx c k) s = .next { s with rx := s.rx ++ [some 0x40, some 1, some c, some k] } ∧
    exec (.frameLen2 .rx c a k) s = .next { s with rx := s.rx ++ [some 0x40, some 2, some c, some a, some k] } ∧
    exec (.frameLen3 .rx c a b k) s =
      .next { s with rx := s.rx ++ [some 0x40, some 3, some c, some a, some b, some k] } ∧
    exec (.frameLen4 .rx c a b d k) s =
      .next { s with rx := s.rx ++ [some 0x40, some 4, some c, some a, some b, some d, some k] } ∧
    exec (.frameLen5 .rx c a b d e k) s =
      .next { s with rx := s.rx ++ [some 0x40, some 5, some c, some a, some b, some d, some e, some k] } ∧
    exec (.frameRspMeasurement a b d e k) s =
      .next { s with rx := s.rx ++ [some 0x40, some 5, some 4, some a, some b, some d, some e, some k] }

/-- R42, R122 (log 8, log 22): bytes received, a frame row's or any others, come to just what the engine's own poll steps come to on
the answers behind which the bytes have been put: none outside a read, and inside one as many as end it or use up all that
waits, whatever waited before, whatever the parser state and the budget. -/
def Obligations.ReceptionIsPolling : Prop :=
  ∀ s : State, Inv s →
    (∀ (i : Instr) (bytes : List Byte), encode i = .frame .rx bytes →
      ∃ t : State, exec i s = .next t ∧ ReceivedAsPolled s bytes t) ∧
    ∀ (bytes : List Byte) (rest : List Event), s.inputs = .link .rx bytes :: rest →
      ∃ t : State, step s = .next t ∧ ReceivedAsPolled { s with inputs := rest } bytes t

/-- R125 to R130, R135: a frame of any length received by a read that hunts for its head, with nothing waiting before it and
budget for all its bytes, ends the read with the verdict of the closed form on its bytes. That the frame is one instruction,
all its bytes polled in one step, is log 8 (DESIGN CHOICE). -/
def Obligations.ReceivedFrameIsJudged : Prop :=
  ∀ (s : State) (i : Instr) (c k : Byte) (ds : List Byte), Inv s → s.pstate = .hunt → s.rx = [] →
    ds.length + 4 ≤ s.budget.toNat → ds.length ≤ 4 → encode i = .frame .rx (frameBytes c ds k) →
    ∃ t : State, exec i s = .next t ∧ t.busy = false ∧ t.pstate = .idle ∧ t.rx = [] ∧ t.tx = s.tx ∧ t.mode = s.mode ∧
      t.curOp = s.curOp ∧ t.phase = s.phase ∧ t.expect = s.expect ∧ t.readBudget = s.readBudget ∧ t.rdata = s.rdata ∧
      t.inputs = s.inputs ∧ t.budget.toNat + (ds.length + 4) = s.budget.toNat ∧ t.polls = s.polls + (ds.length + 4) ∧
      t.idx.toNat = ds.length + 3 ∧ t.len.toNat = ds.length + 1 ∧
      (∀ j, t.bufAt j = ((frameBytes c ds k)[j]?).getD (s.bufAt j)) ∧
      match judge (frameBytes c ds k) s.expect (s.curOp != 0x2) with
      | .ok d => d = ds ∧ t.status = 0x00 ∧ t.resOk = true ∧ t.resCause = .none ∧ t.resN.toNat = ds.length ∧
          t.resData = ⟨ds.getD 0 0, ds.getD 1 0, ds.getD 2 0, ds.getD 3 0⟩ ∧
          (s.curOp = 0x2 → t.pm25 = s.pm25 ∧ t.pm10 = s.pm10) ∧
          (s.curOp ≠ 0x2 →
            t.pm25.toNat = (ds.getD 0 0).toNat * 256 + (ds.getD 1 0).toNat ∧
            t.pm10.toNat = (ds.getD 2 0).toNat * 256 + (ds.getD 3 0).toNat)
      | .fail x => t.status = 0x01 ∧ t.resOk = false ∧ t.resCause = x ∧ t.resN = 0 ∧
          t.resData = ⟨0, 0, 0, 0⟩ ∧ t.pm25 = s.pm25 ∧ t.pm10 = s.pm10

/-- R152, R64: the measurement response, received by the read of READPM or INIT that hunts for its head, with nothing waiting
before it and budget for its eight bytes, is accepted: both readings, big-endian, `status` and the result change together. That
the frame is one instruction, its eight bytes polled in one step, is log 8 (DESIGN CHOICE). -/
def Obligations.MeasurementFrameIsAccepted : Prop :=
  ∀ (s : State) (a b d e k : Byte), Memory.wf s.buf = true → s.pstate = .hunt → s.curOp = 0x7 ∨ s.curOp = 0x8 →
    s.expect = 0x04 → s.rx = [] → 8 ≤ s.budget.toNat → 0x49 + a + b + d + e + k = 0 →
    ∃ m : Memory, (∀ i, cellGet m i = ([0x40, 0x05, 0x04, a, b, d, e, k][i]?).getD (s.bufAt i)) ∧
      exec (.frameRspMeasurement a b d e k) s = .next
        { s with
          pm25 := a ++ b, pm10 := d ++ e, status := 0x00, resOk := true, resCause := .none, resN := 4
          resData := ⟨a, b, d, e⟩, busy := false, pstate := .idle, idx := 7, len := 5, sum := 0x49 + a + b + d + e
          budget := s.budget - 8, buf := m, polls := s.polls + 8 }

/-! ### Decoding and stepping -/

/-- A step runs the decoded instruction: a word presented on the port, and bytes on the link that decode, are taken off the
inputs and run by exec (log 6). Bytes that do not decode are received all the same on RX (R44, R48, R124) and refused on TX
(log 9). `pass`, and `awaitDone` while busy, are the engine's own step, the one of the engine left alone; `awaitDone` is taken off
once busy has fallen (R191). -/
def Obligations.StepRunsDecodedInstruction : Prop :=
  ∀ (s : State) (rest : List Event),
    (∀ w : OpWord, s.inputs = .present w :: rest →
      step s = exec (decodeWord w) { s with inputs := rest }) ∧
    (∀ (dir : Dir) (bytes : List Byte) (i : Instr), s.inputs = .link dir bytes :: rest →
      decodeFrame dir bytes = .ok i → step s = exec i { s with inputs := rest }) ∧
    (∀ (bytes : List Byte) (x : DecodeError), s.inputs = .link .rx bytes :: rest → decodeFrame .rx bytes = .error x →
      step s = outcome (receiveBytes bytes { s with inputs := rest })) ∧
    (∀ (bytes : List Byte) (x : DecodeError), s.inputs = .link .tx bytes :: rest → decodeFrame .tx bytes = .error x →
      step s = .refused .neverTransmitted) ∧
    (s.inputs = .pass :: rest →
      (∀ t, step (alone s) = .next t → step s = .next { t with inputs := rest }) ∧
      ∀ f, step (alone s) = .fault f → step s = .fault f) ∧
    (s.inputs = .awaitDone :: rest →
      (s.busy = true →
        (∀ t, step (alone s) = .next t → step s = .next { t with inputs := .awaitDone :: rest }) ∧
        ∀ f, step (alone s) = .fault f → step s = .fault f) ∧
      (s.busy = false → step s = .next { s with inputs := rest }))

/-- What is placed with withFetchWord runs in the very next step: a row's bits that the table decodes to `i`. -/
def Obligations.PlacedInstructionRunsNext : Prop :=
  ∀ (s : State) (nbits w : Nat) (i : Instr), decodeTableWord nbits w = some i →
    step (s.withFetchWord nbits w) = exec i s

/-- R60 to R74: decoding the encoding of a well-formed instruction gives it back, every operand at every value. -/
def Obligations.DecodeOfEncodeIsSame : Prop :=
  ∀ i : Instr, i.wellFormed = true → decode (encode i) = .ok i

/-- R60: what decodes as a frame on one side of the link is encoded by those very bytes; and it is well formed. -/
def Obligations.EncodeOfDecodedFrameIsSame : Prop :=
  ∀ (dir : Dir) (bytes : List Byte) (i : Instr), decodeFrame dir bytes = .ok i →
    i.wellFormed = true ∧ encode i = .frame dir bytes

/-- R62, R69, R138: every sequence of 4 to 8 bytes with the head and the right length byte is an instruction on the RX side,
whatever its other bytes. -/
def Obligations.EveryReceivedFrameDecodes : Prop :=
  ∀ bytes : List Byte, 4 ≤ bytes.length → bytes.length ≤ 8 → bytes[0]? = some 0x40 →
    bytes[1]? = some (BitVec.ofNat 8 (bytes.length - 3)) → ∃ i : Instr, decodeFrame .rx bytes = .ok i

/-- R71, R73: fields an operation does not use are ignored, bit 15 among them. -/
def Obligations.UnusedFieldsAreIgnored : Prop :=
  ∀ w v : OpWord, w.extractLsb' 0 4 = v.extractLsb' 0 4 →
    (w.extractLsb' 0 4 ≠ 0x1 → w.extractLsb' 0 4 ≠ 0x2 → decodeWord w = decodeWord v) ∧
    (w.extractLsb' 0 4 = 0x1 → w.extractLsb' 4 11 = v.extractLsb' 4 11 → w.extractLsb' 16 32 = v.extractLsb' 16 32 →
      decodeWord w = decodeWord v) ∧
    (w.extractLsb' 0 4 = 0x2 → w.extractLsb' 4 8 = v.extractLsb' 4 8 → w.extractLsb' 48 16 = v.extractLsb' 48 16 →
      decodeWord w = decodeWord v)

/-- Words and frames the spec writes out (95_test_vectors.md PRG2, 30_encoding.md R70, 43_operations.md R153) decode to the
instruction they stand for. -/
def Obligations.SpecWordsDecode : Prop :=
  decodeWord 0x0000000000641081 = .send 0x08 1 0x64 0 0 0 ∧
  decodeWord 0x0010000000000082 = .recv 0x08 16 ∧
  decodeWord 0x0000000000000007 = .readpm ∧
  decodeFrame .tx [0x40, 0x01, 0x01, 0xBE] = .ok .frameCmdStart ∧
  decodeFrame .tx [0x40, 0x02, 0x08, 0x64, 0x52] = .ok (.frameLen2 .tx 0x08 0x64 0x52) ∧
  decodeFrame .rx [0x40, 0x05, 0x04, 0x00, 0x23, 0x00, 0x3A, 0x5A] =
    .ok (.frameRspMeasurement 0x00 0x23 0x00 0x3A 0x5A)

/-! ### Reset and register reads -/

/-- R210: every register's value after reset. -/
def Obligations.ResetLeavesResetValues : Prop :=
  State.reset.pm25 = 0x0000 ∧ State.reset.pm10 = 0x0000 ∧ State.reset.status = 0x01 ∧ State.reset.mode = .idle ∧
  State.reset.busy = false ∧ State.reset.resOk = false ∧ State.reset.resCause = .none ∧ State.reset.resN = 0 ∧
  State.reset.resData = ⟨0x00, 0x00, 0x00, 0x00⟩ ∧ State.reset.pstate = .idle ∧ State.reset.idx = 0 ∧
  State.reset.len = 0x00 ∧ State.reset.expect = 0x00 ∧ State.reset.sum = 0x00 ∧ State.reset.budget = 0x0000 ∧
  (∀ i, State.reset.bufAt i = 0x00) ∧ State.reset.curOp = 0x0 ∧ State.reset.phase = .startFrame

/-- R210 to R212: the reset input, at any moment, gives every register its reset value and leaves the transport (the answers
waiting in it) as it is. That the model keeps the TX log over a reset is its own choice (log 3), as it is that it keeps
the port's output (log 4) and the count of polls (log 5). -/
def Obligations.ResetInputAbortsEverything : Prop :=
  ∀ (s : State) (rest : List Event), s.inputs = .reset :: rest →
    step s = .next
      { State.reset with
        tx := s.tx, rx := s.rx, polls := s.polls, readBudget := s.readBudget, rdata := s.rdata, inputs := rest }

/-- R19, R22: a host register read returns the register by its number, CR4 with its bit layout, at any time, and changes no
state but the port's output. -/
def Obligations.RegisterReadReturnsRegister : Prop :=
  ∀ (s : State) (r : CReg) (rest : List Event), s.inputs = .readReg r :: rest →
    ∃ v : Half, step s = .next { s with rdata := v, inputs := rest } ∧
      match r with
      | .cr0 => v = s.pm25
      | .cr1 => v = s.pm10
      | .cr2 => v.toNat = s.status.toNat
      | .cr3 => v.toNat = match s.mode with | .idle => 0 | .measuring => 1 | .stopped => 2
      | .cr4 =>
        v.extractLsb' 7 9 = BitVec.setWidth 9 (BitVec.ofBool s.busy) ∧ v.getLsbD 6 = s.resOk ∧
        (v.extractLsb' 3 3).toNat = (match s.resCause with
          | .none => 0 | .timeout => 1 | .checksum => 2 | .command => 3 | .length => 4 | .illegalOp => 5) ∧
        v.extractLsb' 0 3 = s.resN
      | .cr5 => v.toNat = s.resData.d0.toNat * 256 + s.resData.d1.toNat
      | .cr6 => v.toNat = s.resData.d2.toNat * 256 + s.resData.d3.toNat

/-! ### The checksum unit -/

/-- R90: Sum8 is the natural sum modulo 256, and the order of the bytes does not change it. -/
def Obligations.SumIsModulo256AnyOrder : Prop :=
  ∀ l : List Byte, (sum8 l).toNat = (l.map BitVec.toNat).sum % 256 ∧ ∀ l' : List Byte, l.Perm l' → sum8 l' = sum8 l

/-- R91: Csum8 is (256 - sum) modulo 256, and the unique byte that makes the total a multiple of 256. -/
def Obligations.ChecksumIsUniqueComplement : Prop :=
  ∀ l : List Byte, (csum8 l).toNat = (256 - (sum8 l).toNat) % 256 ∧
    ∀ c : Byte, ((l.map BitVec.toNat).sum + c.toNat) % 256 = 0 ↔ c = csum8 l

/-- R95: every frame the encoder builds is valid, and valid for its own command. -/
def Obligations.BuiltFrameIsValid : Prop :=
  ∀ (c : Byte) (ps : List Byte), c ∈ commandCodes → ps.length ≤ 4 →
    validFrame (buildFrame c ps) = true ∧ validFrameFor (buildFrame c ps) c = true

/-- R96: a valid frame with any single bit inverted fails the checksum and is no valid frame. -/
def Obligations.SingleBitFlipIsDetected : Prop :=
  ∀ (f : List Byte) (i k : Nat) (b : Byte), validFrame f = true → f[i]? = some b → k < 8 →
    checkOk (f.set i (b ^^^ (BitVec.twoPow 8 k))) = false ∧
    validFrame (f.set i (b ^^^ (BitVec.twoPow 8 k))) = false
end

