-- ==== Sys2Proof/Laws/Checksum.lean ====
section
/-!
SUPPORT. Small laws of the checksum unit (spec/40_checksum.md R90 to R94) and of the frame builder (spec/41_encoder.md
R100).
-/

namespace Sys2Proof.Machine

@[simp] theorem sum8_nil : sum8 [] = 0 := rfl

@[simp] theorem sum8_cons (b : Byte) (l : List Byte) : sum8 (b :: l) = b + sum8 l := rfl

@[simp] theorem sum8_append (l m : List Byte) : sum8 (l ++ m) = sum8 l + sum8 m := by
  induction l with
  | nil => simp
  | cons b l ih => simp [ih, BitVec.add_assoc]

/-- A list followed by its checksum sums to 0 (R91). -/
theorem sum8_with_csum8 (l : List Byte) : sum8 (l ++ [csum8 l]) = 0 := by
  simp [csum8, neg8]

/-- The parser's test on the running sum is `CheckOk` of the whole list (R94). -/
theorem checksumGood_iff (l : List Byte) (b : Byte) : checksumGood (sum8 l) b = checkOk (l ++ [b]) := by
  simp [checksumGood, checkOk, add8]

@[simp] theorem buildFrame_length (c : Byte) (ps : List Byte) : (buildFrame c ps).length = ps.length + 4 := by
  simp [buildFrame, frameBody]

@[simp] theorem wireFrame_length (h c : Byte) (ds : List Byte) (s : Byte) :
    (wireFrame h c ds s).length = ds.length + 4 := by
  simp [wireFrame]

/-- The frame the encoder builds, as it stands on the wire. -/
theorem buildFrame_eq_wireFrame (c : Byte) (ps : List Byte) :
    buildFrame c ps = wireFrame Config.headTx c ps (csum8 (frameBody c ps)) := rfl

/-- The value of a big-endian pair (R7, R47). -/
theorem be16_toNat (hi lo : Byte) : (be16 hi lo).toNat = hi.toNat * 256 + lo.toNat := by
  have h := lo.isLt
  rw [be16, BitVec.toNat_append, Nat.shiftLeft_eq, Nat.mul_comm, ← Nat.two_pow_add_eq_or_of_lt h]

theorem sum8_buildFrame (c : Byte) (ps : List Byte) : sum8 (buildFrame c ps) = 0 := sum8_with_csum8 _

end Sys2Proof.Machine
end

