-- ==== Sys2Proof/Laws/State.lean ====
section
/-!
SUPPORT. What each named update of the state does to each field: one lemma per field per update, true by rfl, so that no
later proof unfolds a record update.
-/

namespace Sys2Proof.Machine

/-! ### prologue -/

@[simp] theorem prologue_pm25 (op : BitVec 4) (s : State) : (prologue op s).pm25 = s.pm25 := rfl
@[simp] theorem prologue_pm10 (op : BitVec 4) (s : State) : (prologue op s).pm10 = s.pm10 := rfl
@[simp] theorem prologue_status (op : BitVec 4) (s : State) : (prologue op s).status = s.status := rfl
@[simp] theorem prologue_mode (op : BitVec 4) (s : State) : (prologue op s).mode = s.mode := rfl
@[simp] theorem prologue_busy (op : BitVec 4) (s : State) : (prologue op s).busy = true := rfl
@[simp] theorem prologue_resOk (op : BitVec 4) (s : State) : (prologue op s).resOk = false := rfl
@[simp] theorem prologue_resCause (op : BitVec 4) (s : State) : (prologue op s).resCause = .none := rfl
@[simp] theorem prologue_resN (op : BitVec 4) (s : State) : (prologue op s).resN = 0 := rfl
@[simp] theorem prologue_resData (op : BitVec 4) (s : State) : (prologue op s).resData = ⟨0, 0, 0, 0⟩ := rfl
@[simp] theorem prologue_pstate (op : BitVec 4) (s : State) : (prologue op s).pstate = s.pstate := rfl
@[simp] theorem prologue_idx (op : BitVec 4) (s : State) : (prologue op s).idx = s.idx := rfl
@[simp] theorem prologue_len (op : BitVec 4) (s : State) : (prologue op s).len = s.len := rfl
@[simp] theorem prologue_expect (op : BitVec 4) (s : State) : (prologue op s).expect = s.expect := rfl
@[simp] theorem prologue_sum (op : BitVec 4) (s : State) : (prologue op s).sum = s.sum := rfl
@[simp] theorem prologue_budget (op : BitVec 4) (s : State) : (prologue op s).budget = s.budget := rfl
@[simp] theorem prologue_buf (op : BitVec 4) (s : State) : (prologue op s).buf = s.buf := rfl
@[simp] theorem prologue_curOp (op : BitVec 4) (s : State) : (prologue op s).curOp = op := rfl
@[simp] theorem prologue_phase (op : BitVec 4) (s : State) : (prologue op s).phase = .startFrame := rfl
@[simp] theorem prologue_tx (op : BitVec 4) (s : State) : (prologue op s).tx = s.tx := rfl
@[simp] theorem prologue_rx (op : BitVec 4) (s : State) : (prologue op s).rx = s.rx := rfl
@[simp] theorem prologue_polls (op : BitVec 4) (s : State) : (prologue op s).polls = s.polls := rfl
@[simp] theorem prologue_readBudget (op : BitVec 4) (s : State) : (prologue op s).readBudget = s.readBudget := rfl
@[simp] theorem prologue_rdata (op : BitVec 4) (s : State) : (prologue op s).rdata = s.rdata := rfl
@[simp] theorem prologue_inputs (op : BitVec 4) (s : State) : (prologue op s).inputs = s.inputs := rfl

/-! ### epilogue -/

@[simp] theorem epilogue_pm25 (s : State) : (epilogue s).pm25 = s.pm25 := rfl
@[simp] theorem epilogue_pm10 (s : State) : (epilogue s).pm10 = s.pm10 := rfl
@[simp] theorem epilogue_status (s : State) : (epilogue s).status = s.status := rfl
@[simp] theorem epilogue_mode (s : State) : (epilogue s).mode = s.mode := rfl
@[simp] theorem epilogue_busy (s : State) : (epilogue s).busy = false := rfl
@[simp] theorem epilogue_resOk (s : State) : (epilogue s).resOk = s.resOk := rfl
@[simp] theorem epilogue_resCause (s : State) : (epilogue s).resCause = s.resCause := rfl
@[simp] theorem epilogue_resN (s : State) : (epilogue s).resN = s.resN := rfl
@[simp] theorem epilogue_resData (s : State) : (epilogue s).resData = s.resData := rfl
@[simp] theorem epilogue_pstate (s : State) : (epilogue s).pstate = s.pstate := rfl
@[simp] theorem epilogue_idx (s : State) : (epilogue s).idx = s.idx := rfl
@[simp] theorem epilogue_len (s : State) : (epilogue s).len = s.len := rfl
@[simp] theorem epilogue_expect (s : State) : (epilogue s).expect = s.expect := rfl
@[simp] theorem epilogue_sum (s : State) : (epilogue s).sum = s.sum := rfl
@[simp] theorem epilogue_budget (s : State) : (epilogue s).budget = s.budget := rfl
@[simp] theorem epilogue_buf (s : State) : (epilogue s).buf = s.buf := rfl
@[simp] theorem epilogue_curOp (s : State) : (epilogue s).curOp = s.curOp := rfl
@[simp] theorem epilogue_phase (s : State) : (epilogue s).phase = s.phase := rfl
@[simp] theorem epilogue_tx (s : State) : (epilogue s).tx = s.tx := rfl
@[simp] theorem epilogue_rx (s : State) : (epilogue s).rx = s.rx := rfl
@[simp] theorem epilogue_polls (s : State) : (epilogue s).polls = s.polls := rfl
@[simp] theorem epilogue_readBudget (s : State) : (epilogue s).readBudget = s.readBudget := rfl
@[simp] theorem epilogue_rdata (s : State) : (epilogue s).rdata = s.rdata := rfl
@[simp] theorem epilogue_inputs (s : State) : (epilogue s).inputs = s.inputs := rfl

/-! ### sendDone -/

@[simp] theorem sendDone_pm25 (s : State) : (sendDone s).pm25 = s.pm25 := rfl
@[simp] theorem sendDone_pm10 (s : State) : (sendDone s).pm10 = s.pm10 := rfl
@[simp] theorem sendDone_status (s : State) : (sendDone s).status = s.status := rfl
@[simp] theorem sendDone_mode (s : State) : (sendDone s).mode = s.mode := rfl
@[simp] theorem sendDone_busy (s : State) : (sendDone s).busy = false := rfl
@[simp] theorem sendDone_resOk (s : State) : (sendDone s).resOk = true := rfl
@[simp] theorem sendDone_resCause (s : State) : (sendDone s).resCause = .none := rfl
@[simp] theorem sendDone_resN (s : State) : (sendDone s).resN = s.resN := rfl
@[simp] theorem sendDone_resData (s : State) : (sendDone s).resData = s.resData := rfl
@[simp] theorem sendDone_pstate (s : State) : (sendDone s).pstate = s.pstate := rfl
@[simp] theorem sendDone_idx (s : State) : (sendDone s).idx = s.idx := rfl
@[simp] theorem sendDone_len (s : State) : (sendDone s).len = s.len := rfl
@[simp] theorem sendDone_expect (s : State) : (sendDone s).expect = s.expect := rfl
@[simp] theorem sendDone_sum (s : State) : (sendDone s).sum = s.sum := rfl
@[simp] theorem sendDone_budget (s : State) : (sendDone s).budget = s.budget := rfl
@[simp] theorem sendDone_buf (s : State) : (sendDone s).buf = s.buf := rfl
@[simp] theorem sendDone_curOp (s : State) : (sendDone s).curOp = s.curOp := rfl
@[simp] theorem sendDone_phase (s : State) : (sendDone s).phase = s.phase := rfl
@[simp] theorem sendDone_tx (s : State) : (sendDone s).tx = s.tx := rfl
@[simp] theorem sendDone_rx (s : State) : (sendDone s).rx = s.rx := rfl
@[simp] theorem sendDone_polls (s : State) : (sendDone s).polls = s.polls := rfl
@[simp] theorem sendDone_readBudget (s : State) : (sendDone s).readBudget = s.readBudget := rfl
@[simp] theorem sendDone_rdata (s : State) : (sendDone s).rdata = s.rdata := rfl
@[simp] theorem sendDone_inputs (s : State) : (sendDone s).inputs = s.inputs := rfl

/-! ### failCommit -/

@[simp] theorem failCommit_pm25 (c : Cause) (s : State) : (failCommit c s).pm25 = s.pm25 := rfl
@[simp] theorem failCommit_pm10 (c : Cause) (s : State) : (failCommit c s).pm10 = s.pm10 := rfl
@[simp] theorem failCommit_status (c : Cause) (s : State) : (failCommit c s).status = Config.statusErr := rfl
@[simp] theorem failCommit_mode (c : Cause) (s : State) : (failCommit c s).mode = s.mode := rfl
@[simp] theorem failCommit_busy (c : Cause) (s : State) : (failCommit c s).busy = false := rfl
@[simp] theorem failCommit_resOk (c : Cause) (s : State) : (failCommit c s).resOk = false := rfl
@[simp] theorem failCommit_resCause (c : Cause) (s : State) : (failCommit c s).resCause = c := rfl
@[simp] theorem failCommit_resN (c : Cause) (s : State) : (failCommit c s).resN = 0 := rfl
@[simp] theorem failCommit_resData (c : Cause) (s : State) : (failCommit c s).resData = ⟨0, 0, 0, 0⟩ := rfl
@[simp] theorem failCommit_pstate (c : Cause) (s : State) : (failCommit c s).pstate = .idle := rfl
@[simp] theorem failCommit_idx (c : Cause) (s : State) : (failCommit c s).idx = s.idx := rfl
@[simp] theorem failCommit_len (c : Cause) (s : State) : (failCommit c s).len = s.len := rfl
@[simp] theorem failCommit_expect (c : Cause) (s : State) : (failCommit c s).expect = s.expect := rfl
@[simp] theorem failCommit_sum (c : Cause) (s : State) : (failCommit c s).sum = s.sum := rfl
@[simp] theorem failCommit_budget (c : Cause) (s : State) : (failCommit c s).budget = s.budget := rfl
@[simp] theorem failCommit_buf (c : Cause) (s : State) : (failCommit c s).buf = s.buf := rfl
@[simp] theorem failCommit_curOp (c : Cause) (s : State) : (failCommit c s).curOp = s.curOp := rfl
@[simp] theorem failCommit_phase (c : Cause) (s : State) : (failCommit c s).phase = s.phase := rfl
@[simp] theorem failCommit_tx (c : Cause) (s : State) : (failCommit c s).tx = s.tx := rfl
@[simp] theorem failCommit_rx (c : Cause) (s : State) : (failCommit c s).rx = s.rx := rfl
@[simp] theorem failCommit_polls (c : Cause) (s : State) : (failCommit c s).polls = s.polls := rfl
@[simp] theorem failCommit_readBudget (c : Cause) (s : State) : (failCommit c s).readBudget = s.readBudget := rfl
@[simp] theorem failCommit_rdata (c : Cause) (s : State) : (failCommit c s).rdata = s.rdata := rfl
@[simp] theorem failCommit_inputs (c : Cause) (s : State) : (failCommit c s).inputs = s.inputs := rfl

/-! ### refuseOp -/

@[simp] theorem refuseOp_pm25 (s : State) : (refuseOp s).pm25 = s.pm25 := rfl
@[simp] theorem refuseOp_pm10 (s : State) : (refuseOp s).pm10 = s.pm10 := rfl
@[simp] theorem refuseOp_status (s : State) : (refuseOp s).status = s.status := rfl
@[simp] theorem refuseOp_mode (s : State) : (refuseOp s).mode = s.mode := rfl
@[simp] theorem refuseOp_busy (s : State) : (refuseOp s).busy = false := rfl
@[simp] theorem refuseOp_resOk (s : State) : (refuseOp s).resOk = false := rfl
@[simp] theorem refuseOp_resCause (s : State) : (refuseOp s).resCause = .illegalOp := rfl
@[simp] theorem refuseOp_resN (s : State) : (refuseOp s).resN = 0 := rfl
@[simp] theorem refuseOp_resData (s : State) : (refuseOp s).resData = ⟨0, 0, 0, 0⟩ := rfl
@[simp] theorem refuseOp_pstate (s : State) : (refuseOp s).pstate = s.pstate := rfl
@[simp] theorem refuseOp_idx (s : State) : (refuseOp s).idx = s.idx := rfl
@[simp] theorem refuseOp_len (s : State) : (refuseOp s).len = s.len := rfl
@[simp] theorem refuseOp_expect (s : State) : (refuseOp s).expect = s.expect := rfl
@[simp] theorem refuseOp_sum (s : State) : (refuseOp s).sum = s.sum := rfl
@[simp] theorem refuseOp_budget (s : State) : (refuseOp s).budget = s.budget := rfl
@[simp] theorem refuseOp_buf (s : State) : (refuseOp s).buf = s.buf := rfl
@[simp] theorem refuseOp_curOp (s : State) : (refuseOp s).curOp = s.curOp := rfl
@[simp] theorem refuseOp_phase (s : State) : (refuseOp s).phase = s.phase := rfl
@[simp] theorem refuseOp_tx (s : State) : (refuseOp s).tx = s.tx := rfl
@[simp] theorem refuseOp_rx (s : State) : (refuseOp s).rx = s.rx := rfl
@[simp] theorem refuseOp_polls (s : State) : (refuseOp s).polls = s.polls := rfl
@[simp] theorem refuseOp_readBudget (s : State) : (refuseOp s).readBudget = s.readBudget := rfl
@[simp] theorem refuseOp_rdata (s : State) : (refuseOp s).rdata = s.rdata := rfl
@[simp] theorem refuseOp_inputs (s : State) : (refuseOp s).inputs = s.inputs := rfl

/-! ### txWrite -/

@[simp] theorem txWrite_pm25 (l : List Byte) (s : State) : (txWrite l s).pm25 = s.pm25 := rfl
@[simp] theorem txWrite_pm10 (l : List Byte) (s : State) : (txWrite l s).pm10 = s.pm10 := rfl
@[simp] theorem txWrite_status (l : List Byte) (s : State) : (txWrite l s).status = s.status := rfl
@[simp] theorem txWrite_mode (l : List Byte) (s : State) : (txWrite l s).mode = s.mode := rfl
@[simp] theorem txWrite_busy (l : List Byte) (s : State) : (txWrite l s).busy = s.busy := rfl
@[simp] theorem txWrite_resOk (l : List Byte) (s : State) : (txWrite l s).resOk = s.resOk := rfl
@[simp] theorem txWrite_resCause (l : List Byte) (s : State) : (txWrite l s).resCause = s.resCause := rfl
@[simp] theorem txWrite_resN (l : List Byte) (s : State) : (txWrite l s).resN = s.resN := rfl
@[simp] theorem txWrite_resData (l : List Byte) (s : State) : (txWrite l s).resData = s.resData := rfl
@[simp] theorem txWrite_pstate (l : List Byte) (s : State) : (txWrite l s).pstate = s.pstate := rfl
@[simp] theorem txWrite_idx (l : List Byte) (s : State) : (txWrite l s).idx = s.idx := rfl
@[simp] theorem txWrite_len (l : List Byte) (s : State) : (txWrite l s).len = s.len := rfl
@[simp] theorem txWrite_expect (l : List Byte) (s : State) : (txWrite l s).expect = s.expect := rfl
@[simp] theorem txWrite_sum (l : List Byte) (s : State) : (txWrite l s).sum = s.sum := rfl
@[simp] theorem txWrite_budget (l : List Byte) (s : State) : (txWrite l s).budget = s.budget := rfl
@[simp] theorem txWrite_buf (l : List Byte) (s : State) : (txWrite l s).buf = s.buf := rfl
@[simp] theorem txWrite_curOp (l : List Byte) (s : State) : (txWrite l s).curOp = s.curOp := rfl
@[simp] theorem txWrite_phase (l : List Byte) (s : State) : (txWrite l s).phase = s.phase := rfl
@[simp] theorem txWrite_tx (l : List Byte) (s : State) : (txWrite l s).tx = s.tx ++ l := rfl
@[simp] theorem txWrite_rx (l : List Byte) (s : State) : (txWrite l s).rx = s.rx := rfl
@[simp] theorem txWrite_polls (l : List Byte) (s : State) : (txWrite l s).polls = s.polls := rfl
@[simp] theorem txWrite_readBudget (l : List Byte) (s : State) : (txWrite l s).readBudget = s.readBudget := rfl
@[simp] theorem txWrite_rdata (l : List Byte) (s : State) : (txWrite l s).rdata = s.rdata := rfl
@[simp] theorem txWrite_inputs (l : List Byte) (s : State) : (txWrite l s).inputs = s.inputs := rfl

/-! ### writeFrame -/

@[simp] theorem writeFrame_pm25 (c : Byte) (ps : List Byte) (s : State) : (writeFrame c ps s).pm25 = s.pm25 := rfl
@[simp] theorem writeFrame_pm10 (c : Byte) (ps : List Byte) (s : State) : (writeFrame c ps s).pm10 = s.pm10 := rfl
@[simp] theorem writeFrame_status (c : Byte) (ps : List Byte) (s : State) : (writeFrame c ps s).status = s.status := rfl
@[simp] theorem writeFrame_mode (c : Byte) (ps : List Byte) (s : State) : (writeFrame c ps s).mode = nextMode s.mode c := rfl
@[simp] theorem writeFrame_busy (c : Byte) (ps : List Byte) (s : State) : (writeFrame c ps s).busy = s.busy := rfl
@[simp] theorem writeFrame_resOk (c : Byte) (ps : List Byte) (s : State) : (writeFrame c ps s).resOk = s.resOk := rfl
@[simp] theorem writeFrame_resCause (c : Byte) (ps : List Byte) (s : State) : (writeFrame c ps s).resCause = s.resCause := rfl
@[simp] theorem writeFrame_resN (c : Byte) (ps : List Byte) (s : State) : (writeFrame c ps s).resN = s.resN := rfl
@[simp] theorem writeFrame_resData (c : Byte) (ps : List Byte) (s : State) : (writeFrame c ps s).resData = s.resData := rfl
@[simp] theorem writeFrame_pstate (c : Byte) (ps : List Byte) (s : State) : (writeFrame c ps s).pstate = s.pstate := rfl
@[simp] theorem writeFrame_idx (c : Byte) (ps : List Byte) (s : State) : (writeFrame c ps s).idx = s.idx := rfl
@[simp] theorem writeFrame_len (c : Byte) (ps : List Byte) (s : State) : (writeFrame c ps s).len = s.len := rfl
@[simp] theorem writeFrame_expect (c : Byte) (ps : List Byte) (s : State) : (writeFrame c ps s).expect = s.expect := rfl
@[simp] theorem writeFrame_sum (c : Byte) (ps : List Byte) (s : State) : (writeFrame c ps s).sum = s.sum := rfl
@[simp] theorem writeFrame_budget (c : Byte) (ps : List Byte) (s : State) : (writeFrame c ps s).budget = s.budget := rfl
@[simp] theorem writeFrame_buf (c : Byte) (ps : List Byte) (s : State) : (writeFrame c ps s).buf = s.buf := rfl
@[simp] theorem writeFrame_curOp (c : Byte) (ps : List Byte) (s : State) : (writeFrame c ps s).curOp = s.curOp := rfl
@[simp] theorem writeFrame_phase (c : Byte) (ps : List Byte) (s : State) : (writeFrame c ps s).phase = s.phase := rfl
@[simp] theorem writeFrame_tx (c : Byte) (ps : List Byte) (s : State) : (writeFrame c ps s).tx = s.tx ++ buildFrame c ps := rfl
@[simp] theorem writeFrame_rx (c : Byte) (ps : List Byte) (s : State) : (writeFrame c ps s).rx = s.rx := rfl
@[simp] theorem writeFrame_polls (c : Byte) (ps : List Byte) (s : State) : (writeFrame c ps s).polls = s.polls := rfl
@[simp] theorem writeFrame_readBudget (c : Byte) (ps : List Byte) (s : State) : (writeFrame c ps s).readBudget = s.readBudget := rfl
@[simp] theorem writeFrame_rdata (c : Byte) (ps : List Byte) (s : State) : (writeFrame c ps s).rdata = s.rdata := rfl
@[simp] theorem writeFrame_inputs (c : Byte) (ps : List Byte) (s : State) : (writeFrame c ps s).inputs = s.inputs := rfl

/-! ### startRead -/

@[simp] theorem startRead_pm25 (e : Byte) (b : Half) (s : State) : (startRead e b s).pm25 = s.pm25 := rfl
@[simp] theorem startRead_pm10 (e : Byte) (b : Half) (s : State) : (startRead e b s).pm10 = s.pm10 := rfl
@[simp] theorem startRead_status (e : Byte) (b : Half) (s : State) : (startRead e b s).status = s.status := rfl
@[simp] theorem startRead_mode (e : Byte) (b : Half) (s : State) : (startRead e b s).mode = s.mode := rfl
@[simp] theorem startRead_busy (e : Byte) (b : Half) (s : State) : (startRead e b s).busy = s.busy := rfl
@[simp] theorem startRead_resOk (e : Byte) (b : Half) (s : State) : (startRead e b s).resOk = s.resOk := rfl
@[simp] theorem startRead_resCause (e : Byte) (b : Half) (s : State) : (startRead e b s).resCause = s.resCause := rfl
@[simp] theorem startRead_resN (e : Byte) (b : Half) (s : State) : (startRead e b s).resN = s.resN := rfl
@[simp] theorem startRead_resData (e : Byte) (b : Half) (s : State) : (startRead e b s).resData = s.resData := rfl
@[simp] theorem startRead_pstate (e : Byte) (b : Half) (s : State) : (startRead e b s).pstate = .hunt := rfl
@[simp] theorem startRead_idx (e : Byte) (b : Half) (s : State) : (startRead e b s).idx = 0 := rfl
@[simp] theorem startRead_len (e : Byte) (b : Half) (s : State) : (startRead e b s).len = 0 := rfl
@[simp] theorem startRead_expect (e : Byte) (b : Half) (s : State) : (startRead e b s).expect = e := rfl
@[simp] theorem startRead_sum (e : Byte) (b : Half) (s : State) : (startRead e b s).sum = 0 := rfl
@[simp] theorem startRead_budget (e : Byte) (b : Half) (s : State) : (startRead e b s).budget = b := rfl
@[simp] theorem startRead_buf (e : Byte) (b : Half) (s : State) : (startRead e b s).buf = s.buf := rfl
@[simp] theorem startRead_curOp (e : Byte) (b : Half) (s : State) : (startRead e b s).curOp = s.curOp := rfl
@[simp] theorem startRead_phase (e : Byte) (b : Half) (s : State) : (startRead e b s).phase = s.phase := rfl
@[simp] theorem startRead_tx (e : Byte) (b : Half) (s : State) : (startRead e b s).tx = s.tx := rfl
@[simp] theorem startRead_rx (e : Byte) (b : Half) (s : State) : (startRead e b s).rx = s.rx := rfl
@[simp] theorem startRead_polls (e : Byte) (b : Half) (s : State) : (startRead e b s).polls = s.polls := rfl
@[simp] theorem startRead_readBudget (e : Byte) (b : Half) (s : State) : (startRead e b s).readBudget = s.readBudget := rfl
@[simp] theorem startRead_rdata (e : Byte) (b : Half) (s : State) : (startRead e b s).rdata = s.rdata := rfl
@[simp] theorem startRead_inputs (e : Byte) (b : Half) (s : State) : (startRead e b s).inputs = s.inputs := rfl

/-! ### chargePoll -/

@[simp] theorem chargePoll_pm25 (s : State) : (chargePoll s).pm25 = s.pm25 := rfl
@[simp] theorem chargePoll_pm10 (s : State) : (chargePoll s).pm10 = s.pm10 := rfl
@[simp] theorem chargePoll_status (s : State) : (chargePoll s).status = s.status := rfl
@[simp] theorem chargePoll_mode (s : State) : (chargePoll s).mode = s.mode := rfl
@[simp] theorem chargePoll_busy (s : State) : (chargePoll s).busy = s.busy := rfl
@[simp] theorem chargePoll_resOk (s : State) : (chargePoll s).resOk = s.resOk := rfl
@[simp] theorem chargePoll_resCause (s : State) : (chargePoll s).resCause = s.resCause := rfl
@[simp] theorem chargePoll_resN (s : State) : (chargePoll s).resN = s.resN := rfl
@[simp] theorem chargePoll_resData (s : State) : (chargePoll s).resData = s.resData := rfl
@[simp] theorem chargePoll_pstate (s : State) : (chargePoll s).pstate = s.pstate := rfl
@[simp] theorem chargePoll_idx (s : State) : (chargePoll s).idx = s.idx := rfl
@[simp] theorem chargePoll_len (s : State) : (chargePoll s).len = s.len := rfl
@[simp] theorem chargePoll_expect (s : State) : (chargePoll s).expect = s.expect := rfl
@[simp] theorem chargePoll_sum (s : State) : (chargePoll s).sum = s.sum := rfl
@[simp] theorem chargePoll_budget (s : State) : (chargePoll s).budget = s.budget - 1 := rfl
@[simp] theorem chargePoll_buf (s : State) : (chargePoll s).buf = s.buf := rfl
@[simp] theorem chargePoll_curOp (s : State) : (chargePoll s).curOp = s.curOp := rfl
@[simp] theorem chargePoll_phase (s : State) : (chargePoll s).phase = s.phase := rfl
@[simp] theorem chargePoll_tx (s : State) : (chargePoll s).tx = s.tx := rfl
@[simp] theorem chargePoll_rx (s : State) : (chargePoll s).rx = s.rx.drop 1 := rfl
@[simp] theorem chargePoll_polls (s : State) : (chargePoll s).polls = s.polls + 1 := rfl
@[simp] theorem chargePoll_readBudget (s : State) : (chargePoll s).readBudget = s.readBudget := rfl
@[simp] theorem chargePoll_rdata (s : State) : (chargePoll s).rdata = s.rdata := rfl
@[simp] theorem chargePoll_inputs (s : State) : (chargePoll s).inputs = s.inputs := rfl

/-! ### commitRecv -/

@[simp] theorem commitRecv_pm25 (s : State) : (commitRecv s).pm25 = s.pm25 := rfl
@[simp] theorem commitRecv_pm10 (s : State) : (commitRecv s).pm10 = s.pm10 := rfl
@[simp] theorem commitRecv_status (s : State) : (commitRecv s).status = Config.statusOk := rfl
@[simp] theorem commitRecv_mode (s : State) : (commitRecv s).mode = s.mode := rfl
@[simp] theorem commitRecv_busy (s : State) : (commitRecv s).busy = false := rfl
@[simp] theorem commitRecv_resOk (s : State) : (commitRecv s).resOk = true := rfl
@[simp] theorem commitRecv_resCause (s : State) : (commitRecv s).resCause = .none := rfl
@[simp] theorem commitRecv_resN (s : State) : (commitRecv s).resN = (s.len - 1).setWidth 3 := rfl
@[simp] theorem commitRecv_resData (s : State) : (commitRecv s).resData = payload s := rfl
@[simp] theorem commitRecv_pstate (s : State) : (commitRecv s).pstate = .idle := rfl
@[simp] theorem commitRecv_idx (s : State) : (commitRecv s).idx = s.idx := rfl
@[simp] theorem commitRecv_len (s : State) : (commitRecv s).len = s.len := rfl
@[simp] theorem commitRecv_expect (s : State) : (commitRecv s).expect = s.expect := rfl
@[simp] theorem commitRecv_sum (s : State) : (commitRecv s).sum = s.sum := rfl
@[simp] theorem commitRecv_budget (s : State) : (commitRecv s).budget = s.budget := rfl
@[simp] theorem commitRecv_buf (s : State) : (commitRecv s).buf = s.buf := rfl
@[simp] theorem commitRecv_curOp (s : State) : (commitRecv s).curOp = s.curOp := rfl
@[simp] theorem commitRecv_phase (s : State) : (commitRecv s).phase = s.phase := rfl
@[simp] theorem commitRecv_tx (s : State) : (commitRecv s).tx = s.tx := rfl
@[simp] theorem commitRecv_rx (s : State) : (commitRecv s).rx = s.rx := rfl
@[simp] theorem commitRecv_polls (s : State) : (commitRecv s).polls = s.polls := rfl
@[simp] theorem commitRecv_readBudget (s : State) : (commitRecv s).readBudget = s.readBudget := rfl
@[simp] theorem commitRecv_rdata (s : State) : (commitRecv s).rdata = s.rdata := rfl
@[simp] theorem commitRecv_inputs (s : State) : (commitRecv s).inputs = s.inputs := rfl

/-! ### commitMeasurement -/

@[simp] theorem commitMeasurement_pm25 (s : State) : (commitMeasurement s).pm25 = be16 (s.bufAt 3) (s.bufAt 4) := rfl
@[simp] theorem commitMeasurement_pm10 (s : State) : (commitMeasurement s).pm10 = be16 (s.bufAt 5) (s.bufAt 6) := rfl
@[simp] theorem commitMeasurement_status (s : State) : (commitMeasurement s).status = Config.statusOk := rfl
@[simp] theorem commitMeasurement_mode (s : State) : (commitMeasurement s).mode = s.mode := rfl
@[simp] theorem commitMeasurement_busy (s : State) : (commitMeasurement s).busy = false := rfl
@[simp] theorem commitMeasurement_resOk (s : State) : (commitMeasurement s).resOk = true := rfl
@[simp] theorem commitMeasurement_resCause (s : State) : (commitMeasurement s).resCause = .none := rfl
@[simp] theorem commitMeasurement_resN (s : State) : (commitMeasurement s).resN = 4 := rfl
@[simp] theorem commitMeasurement_resData (s : State) : (commitMeasurement s).resData = ⟨s.bufAt 3, s.bufAt 4, s.bufAt 5, s.bufAt 6⟩ := rfl
@[simp] theorem commitMeasurement_pstate (s : State) : (commitMeasurement s).pstate = .idle := rfl
@[simp] theorem commitMeasurement_idx (s : State) : (commitMeasurement s).idx = s.idx := rfl
@[simp] theorem commitMeasurement_len (s : State) : (commitMeasurement s).len = s.len := rfl
@[simp] theorem commitMeasurement_expect (s : State) : (commitMeasurement s).expect = s.expect := rfl
@[simp] theorem commitMeasurement_sum (s : State) : (commitMeasurement s).sum = s.sum := rfl
@[simp] theorem commitMeasurement_budget (s : State) : (commitMeasurement s).budget = s.budget := rfl
@[simp] theorem commitMeasurement_buf (s : State) : (commitMeasurement s).buf = s.buf := rfl
@[simp] theorem commitMeasurement_curOp (s : State) : (commitMeasurement s).curOp = s.curOp := rfl
@[simp] theorem commitMeasurement_phase (s : State) : (commitMeasurement s).phase = s.phase := rfl
@[simp] theorem commitMeasurement_tx (s : State) : (commitMeasurement s).tx = s.tx := rfl
@[simp] theorem commitMeasurement_rx (s : State) : (commitMeasurement s).rx = s.rx := rfl
@[simp] theorem commitMeasurement_polls (s : State) : (commitMeasurement s).polls = s.polls := rfl
@[simp] theorem commitMeasurement_readBudget (s : State) : (commitMeasurement s).readBudget = s.readBudget := rfl
@[simp] theorem commitMeasurement_rdata (s : State) : (commitMeasurement s).rdata = s.rdata := rfl
@[simp] theorem commitMeasurement_inputs (s : State) : (commitMeasurement s).inputs = s.inputs := rfl

/-! ### setRdata -/

@[simp] theorem setRdata_pm25 (v : Half) (s : State) : (setRdata v s).pm25 = s.pm25 := rfl
@[simp] theorem setRdata_pm10 (v : Half) (s : State) : (setRdata v s).pm10 = s.pm10 := rfl
@[simp] theorem setRdata_status (v : Half) (s : State) : (setRdata v s).status = s.status := rfl
@[simp] theorem setRdata_mode (v : Half) (s : State) : (setRdata v s).mode = s.mode := rfl
@[simp] theorem setRdata_busy (v : Half) (s : State) : (setRdata v s).busy = s.busy := rfl
@[simp] theorem setRdata_resOk (v : Half) (s : State) : (setRdata v s).resOk = s.resOk := rfl
@[simp] theorem setRdata_resCause (v : Half) (s : State) : (setRdata v s).resCause = s.resCause := rfl
@[simp] theorem setRdata_resN (v : Half) (s : State) : (setRdata v s).resN = s.resN := rfl
@[simp] theorem setRdata_resData (v : Half) (s : State) : (setRdata v s).resData = s.resData := rfl
@[simp] theorem setRdata_pstate (v : Half) (s : State) : (setRdata v s).pstate = s.pstate := rfl
@[simp] theorem setRdata_idx (v : Half) (s : State) : (setRdata v s).idx = s.idx := rfl
@[simp] theorem setRdata_len (v : Half) (s : State) : (setRdata v s).len = s.len := rfl
@[simp] theorem setRdata_expect (v : Half) (s : State) : (setRdata v s).expect = s.expect := rfl
@[simp] theorem setRdata_sum (v : Half) (s : State) : (setRdata v s).sum = s.sum := rfl
@[simp] theorem setRdata_budget (v : Half) (s : State) : (setRdata v s).budget = s.budget := rfl
@[simp] theorem setRdata_buf (v : Half) (s : State) : (setRdata v s).buf = s.buf := rfl
@[simp] theorem setRdata_curOp (v : Half) (s : State) : (setRdata v s).curOp = s.curOp := rfl
@[simp] theorem setRdata_phase (v : Half) (s : State) : (setRdata v s).phase = s.phase := rfl
@[simp] theorem setRdata_tx (v : Half) (s : State) : (setRdata v s).tx = s.tx := rfl
@[simp] theorem setRdata_rx (v : Half) (s : State) : (setRdata v s).rx = s.rx := rfl
@[simp] theorem setRdata_polls (v : Half) (s : State) : (setRdata v s).polls = s.polls := rfl
@[simp] theorem setRdata_readBudget (v : Half) (s : State) : (setRdata v s).readBudget = s.readBudget := rfl
@[simp] theorem setRdata_rdata (v : Half) (s : State) : (setRdata v s).rdata = v := rfl
@[simp] theorem setRdata_inputs (v : Half) (s : State) : (setRdata v s).inputs = s.inputs := rfl

/-! ### applyReset -/

@[simp] theorem applyReset_pm25 (s : State) : (applyReset s).pm25 = State.reset.pm25 := rfl
@[simp] theorem applyReset_pm10 (s : State) : (applyReset s).pm10 = State.reset.pm10 := rfl
@[simp] theorem applyReset_status (s : State) : (applyReset s).status = State.reset.status := rfl
@[simp] theorem applyReset_mode (s : State) : (applyReset s).mode = State.reset.mode := rfl
@[simp] theorem applyReset_busy (s : State) : (applyReset s).busy = State.reset.busy := rfl
@[simp] theorem applyReset_resOk (s : State) : (applyReset s).resOk = State.reset.resOk := rfl
@[simp] theorem applyReset_resCause (s : State) : (applyReset s).resCause = State.reset.resCause := rfl
@[simp] theorem applyReset_resN (s : State) : (applyReset s).resN = State.reset.resN := rfl
@[simp] theorem applyReset_resData (s : State) : (applyReset s).resData = State.reset.resData := rfl
@[simp] theorem applyReset_pstate (s : State) : (applyReset s).pstate = State.reset.pstate := rfl
@[simp] theorem applyReset_idx (s : State) : (applyReset s).idx = State.reset.idx := rfl
@[simp] theorem applyReset_len (s : State) : (applyReset s).len = State.reset.len := rfl
@[simp] theorem applyReset_expect (s : State) : (applyReset s).expect = State.reset.expect := rfl
@[simp] theorem applyReset_sum (s : State) : (applyReset s).sum = State.reset.sum := rfl
@[simp] theorem applyReset_budget (s : State) : (applyReset s).budget = State.reset.budget := rfl
@[simp] theorem applyReset_buf (s : State) : (applyReset s).buf = State.reset.buf := rfl
@[simp] theorem applyReset_curOp (s : State) : (applyReset s).curOp = State.reset.curOp := rfl
@[simp] theorem applyReset_phase (s : State) : (applyReset s).phase = State.reset.phase := rfl
@[simp] theorem applyReset_tx (s : State) : (applyReset s).tx = s.tx := rfl
@[simp] theorem applyReset_rx (s : State) : (applyReset s).rx = s.rx := rfl
@[simp] theorem applyReset_polls (s : State) : (applyReset s).polls = s.polls := rfl
@[simp] theorem applyReset_readBudget (s : State) : (applyReset s).readBudget = s.readBudget := rfl
@[simp] theorem applyReset_rdata (s : State) : (applyReset s).rdata = s.rdata := rfl
@[simp] theorem applyReset_inputs (s : State) : (applyReset s).inputs = s.inputs := rfl

/-! ### dropInput -/

@[simp] theorem dropInput_pm25 (s : State) : (dropInput s).pm25 = s.pm25 := rfl
@[simp] theorem dropInput_pm10 (s : State) : (dropInput s).pm10 = s.pm10 := rfl
@[simp] theorem dropInput_status (s : State) : (dropInput s).status = s.status := rfl
@[simp] theorem dropInput_mode (s : State) : (dropInput s).mode = s.mode := rfl
@[simp] theorem dropInput_busy (s : State) : (dropInput s).busy = s.busy := rfl
@[simp] theorem dropInput_resOk (s : State) : (dropInput s).resOk = s.resOk := rfl
@[simp] theorem dropInput_resCause (s : State) : (dropInput s).resCause = s.resCause := rfl
@[simp] theorem dropInput_resN (s : State) : (dropInput s).resN = s.resN := rfl
@[simp] theorem dropInput_resData (s : State) : (dropInput s).resData = s.resData := rfl
@[simp] theorem dropInput_pstate (s : State) : (dropInput s).pstate = s.pstate := rfl
@[simp] theorem dropInput_idx (s : State) : (dropInput s).idx = s.idx := rfl
@[simp] theorem dropInput_len (s : State) : (dropInput s).len = s.len := rfl
@[simp] theorem dropInput_expect (s : State) : (dropInput s).expect = s.expect := rfl
@[simp] theorem dropInput_sum (s : State) : (dropInput s).sum = s.sum := rfl
@[simp] theorem dropInput_budget (s : State) : (dropInput s).budget = s.budget := rfl
@[simp] theorem dropInput_buf (s : State) : (dropInput s).buf = s.buf := rfl
@[simp] theorem dropInput_curOp (s : State) : (dropInput s).curOp = s.curOp := rfl
@[simp] theorem dropInput_phase (s : State) : (dropInput s).phase = s.phase := rfl
@[simp] theorem dropInput_tx (s : State) : (dropInput s).tx = s.tx := rfl
@[simp] theorem dropInput_rx (s : State) : (dropInput s).rx = s.rx := rfl
@[simp] theorem dropInput_polls (s : State) : (dropInput s).polls = s.polls := rfl
@[simp] theorem dropInput_readBudget (s : State) : (dropInput s).readBudget = s.readBudget := rfl
@[simp] theorem dropInput_rdata (s : State) : (dropInput s).rdata = s.rdata := rfl
@[simp] theorem dropInput_inputs (s : State) : (dropInput s).inputs = s.inputs.drop 1 := rfl

/-! ### whenIdle -/

@[simp] theorem whenIdle_of_busy (f : State → State) {s : State} (h : s.busy = true) : whenIdle f s = s := by
  simp [whenIdle, h]

@[simp] theorem whenIdle_of_idle (f : State → State) {s : State} (h : s.busy = false) : whenIdle f s = f s := by
  simp [whenIdle, h]

end Sys2Proof.Machine
end

