-- ==== Sys2Proof/Laws/Memory.lean ====
section
/-!
SUPPORT. The laws of the frame buffer (spec/20_memory.md R46): a write is read back, every other address keeps its byte,
and every memory operation keeps the canonical form.
-/

namespace Sys2Proof.Machine

/-- The canonical form, spelt out. -/
theorem wf_iff (m : Memory) :
    Memory.wf m = true ↔ m.Pairwise (fun x y => x.1 < y.1) ∧ ∀ c ∈ m, c.1 < Config.maxFrame ∧ c.2 ≠ unlisted := by
  simp [Memory.wf]

theorem reset_buf_wf : Memory.wf State.reset.buf = true := by decide

/-- In a list whose addresses all lie above `a`, `a` is not listed. -/
theorem cellGet_of_above {m : Memory} {a : Nat} (h : ∀ c ∈ m, a < c.1) : cellGet m a = unlisted := by
  induction m with
  | nil => rfl
  | cons x m ih =>
    have hx := h x (List.mem_cons_self ..)
    rw [cellGet, if_neg (by omega)]
    exact ih fun c hc => h c (List.mem_cons_of_mem _ hc)

/-- A write is read back, and every other address reads as before. -/
theorem cellGet_cellPut {m : Memory} (hs : m.Pairwise (fun x y => x.1 < y.1)) (a : Nat) (b : Byte) (x : Nat) :
    cellGet (cellPut m a b) x = if x = a then b else cellGet m x := by
  induction m with
  | nil =>
    by_cases hb : b = unlisted
    · simp [cellPut, cellGet, hb]
    · by_cases hx : x = a
      · simp [cellPut, cellGet, hb, hx]
      · simp [cellPut, cellGet, hb, hx, Ne.symm hx]
  | cons y m ih =>
    obtain ⟨y, c⟩ := y
    have hp := List.pairwise_cons.1 hs
    rw [cellPut]
    split
    · next hlt =>
      have habove : cellGet ((y, c) :: m) a = unlisted := by
        refine cellGet_of_above fun d hd => ?_
        rcases List.mem_cons.1 hd with rfl | hd
        · exact hlt
        · exact Nat.lt_trans hlt (hp.1 d hd)
      split
      · next hb =>
        by_cases hx : x = a
        · simp [hx, habove, hb]
        · simp [hx]
      · by_cases hx : x = a
        · simp [cellGet, hx]
        · simp [cellGet, hx, Ne.symm hx]
    · split
      · next hge heq =>
        subst heq
        have habove : cellGet m a = unlisted := cellGet_of_above fun d hd => hp.1 d hd
        split
        · next hb =>
          by_cases hx : x = a
          · simp [hx, habove, hb]
          · simp [cellGet, hx, Ne.symm hx]
        · by_cases hx : x = a
          · simp [cellGet, hx]
          · simp [cellGet, hx, Ne.symm hx]
      · next hge hne =>
        rw [cellGet, cellGet, ih hp.2]
        by_cases hx : x = a
        · subst hx
          simp [Ne.symm hne]
        · simp [hx]

/-- The entries of a written list: the new byte at `a`, if listed, and old entries elsewhere. -/
theorem mem_cellPut {m : Memory} {a : Nat} {b : Byte} {c : Host.Cell} (h : c ∈ cellPut m a b) :
    (c = (a, b) ∧ b ≠ unlisted) ∨ c ∈ m := by
  induction m with
  | nil =>
    rw [cellPut] at h
    split at h <;> simp_all
  | cons y m ih =>
    obtain ⟨y, d⟩ := y
    rw [cellPut] at h
    split at h
    · split at h
      · exact .inr h
      · rcases List.mem_cons.1 h with rfl | h
        · exact .inl ⟨rfl, ‹_›⟩
        · exact .inr h
    · split at h
      · split at h
        · exact .inr (List.mem_cons_of_mem _ h)
        · rcases List.mem_cons.1 h with rfl | h
          · exact .inl ⟨rfl, ‹_›⟩
          · exact .inr (List.mem_cons_of_mem _ h)
      · rcases List.mem_cons.1 h with rfl | h
        · exact .inr (List.mem_cons_self ..)
        · exact (ih h).imp id (List.mem_cons_of_mem _)

/-- A write keeps the addresses strictly rising. -/
theorem cellPut_pairwise {m : Memory} (h : m.Pairwise (fun x y => x.1 < y.1)) (a : Nat) (b : Byte) :
    (cellPut m a b).Pairwise (fun x y => x.1 < y.1) := by
  induction m with
  | nil =>
    rw [cellPut]
    split <;> simp
  | cons y m ih =>
    obtain ⟨y, d⟩ := y
    have hp := List.pairwise_cons.1 h
    rw [cellPut]
    split
    · next hlt =>
      split
      · exact h
      · refine List.pairwise_cons.2 ⟨fun c hc => ?_, h⟩
        rcases List.mem_cons.1 hc with rfl | hc
        · exact hlt
        · exact Nat.lt_trans hlt (hp.1 c hc)
    · split
      · next _ heq =>
        subst heq
        split
        · exact hp.2
        · exact List.pairwise_cons.2 ⟨fun c hc => hp.1 c hc, hp.2⟩
      · next hge hne =>
        refine List.pairwise_cons.2 ⟨fun c hc => ?_, ih hp.2⟩
        rcases mem_cellPut hc with ⟨rfl, -⟩ | hc
        · simp only at hge hne ⊢
          omega
        · exact hp.1 c hc

/-- A write within the buffer keeps the canonical form. -/
theorem cellPut_wf {m : Memory} (h : Memory.wf m = true) {a : Nat} (ha : a < Config.maxFrame) (b : Byte) :
    Memory.wf (cellPut m a b) = true := by
  rw [wf_iff] at h ⊢
  refine ⟨cellPut_pairwise h.1 a b, fun c hc => ?_⟩
  rcases mem_cellPut hc with ⟨rfl, hb⟩ | hc
  · exact ⟨ha, hb⟩
  · exact h.2 c hc

/-- All that a write of the buffer can do. -/
theorem bufWrite_ok {i : Nat} {b : Byte} {s t : State} (h : bufWrite i b s = .ok t) :
    i < Config.maxFrame ∧ t = { s with buf := cellPut s.buf i b } := by
  unfold bufWrite at h
  split at h
  · exact ⟨‹_›, by simpa using h.symm⟩
  · cases h

theorem bufWrite_of_lt {i : Nat} (hi : i < Config.maxFrame) (b : Byte) (s : State) :
    bufWrite i b s = .ok { s with buf := cellPut s.buf i b } := if_pos hi

/-- Reading a byte after a write of the buffer. -/
theorem bufAt_put {s : State} (h : Memory.wf s.buf = true) (i : Nat) (b : Byte) (x : Nat) :
    ({ s with buf := cellPut s.buf i b } : State).bufAt x = if x = i then b else s.bufAt x :=
  cellGet_cellPut ((wf_iff _).1 h).1 i b x

end Sys2Proof.Machine
end

