-- ==== Sys2Proof/Laws/Ops.lean ====
section
/-!
SUPPORT. For each shared operation, one lemma that says once everything it can do.
-/

namespace Sys2Proof.Machine

/-! ### Outcomes -/

@[simp] theorem outcome_ok (s : State) : outcome (.ok s) = .next s := rfl
@[simp] theorem outcome_error (f : Fault) : outcome (.error f) = .fault f := rfl

theorem outcome_next {r : Except Fault State} {t : State} (h : outcome r = .next t) : r = .ok t := by
  cases r <;> simp_all [outcome]

theorem outcome_fault {r : Except Fault State} {f : Fault} (h : outcome r = .fault f) : r = .error f := by
  cases r <;> simp_all [outcome]

theorem outcome_not_refused {r : Except Fault State} {x : Refusal} : outcome r ≠ .refused x := by
  cases r <;> simp [outcome]

/-! ### The answers -/

@[simp] theorem answer_cons_zero {s : State} {a : Option Byte} {l : List (Option Byte)} (h : s.rx = a :: l) :
    s.answer 0 = a := by
  simp [State.answer, h]

/-- After a poll the answers are one further on (R42). -/
theorem answer_chargePoll (s : State) (j : Nat) : (chargePoll s).answer j = s.answer (j + 1) := by
  simp only [State.answer, chargePoll_rx, chargePoll_polls, List.getElem?_drop, Nat.add_comm 1 j]
  split
  · simp_all
  · simp_all only [Nat.add_assoc, Nat.add_comm 1 j]

/-! ### Bytes -/

/-- What a byte does in each parser state (R124 to R130), when it does not fault. -/
theorem takeByte_ok {b : Byte} {s t : State} (h : takeByte b s = .ok t) :
    (s.pstate = .idle ∧ t = s) ∨
    (s.pstate = .hunt ∧ b ≠ Config.head ∧ t = s) ∨
    (s.pstate = .hunt ∧ b = Config.head ∧
      t = { s with buf := cellPut s.buf 0 b, sum := b, idx := 1, pstate := .len }) ∨
    (s.pstate = .len ∧ lenOk b = false ∧ t = failCommit .length s) ∨
    (s.pstate = .len ∧ lenOk b = true ∧
      t = { s with buf := cellPut s.buf 1 b, len := b, sum := s.sum + b, idx := 2, pstate := .cmd }) ∨
    (s.pstate = .cmd ∧
      t = { s with
        buf := cellPut s.buf 2 b, sum := s.sum + b, idx := 3, pstate := if s.len = 1 then .csum else .data }) ∨
    (s.pstate = .data ∧ s.idx.toNat < Config.maxFrame ∧
      t = { s with
        buf := cellPut s.buf s.idx.toNat b, sum := s.sum + b, idx := s.idx + 1
        pstate := if (s.idx + 1).toNat = s.len.toNat + 2 then .csum else .data }) ∨
    (s.pstate = .csum ∧ s.idx.toNat < Config.maxFrame ∧
      t = endOfFrame b { s with buf := cellPut s.buf s.idx.toNat b }) := by
  have hmax : ∀ i, i < 8 → i < Config.maxFrame := fun _ h => h
  cases hp : s.pstate <;> simp only [takeByte, hp] at h
  · exact .inl ⟨rfl, by simpa using h.symm⟩
  · unfold takeHunt at h
    split at h
    · rw [bufWrite_of_lt (hmax 0 (by omega))] at h
      exact .inr (.inr (.inl ⟨rfl, ‹_›, (Except.ok.inj h).symm⟩))
    · exact .inr (.inl ⟨rfl, ‹_›, (Except.ok.inj h).symm⟩)
  · unfold takeLen at h
    split at h
    · rw [bufWrite_of_lt (hmax 1 (by omega))] at h
      exact .inr (.inr (.inr (.inr (.inl ⟨rfl, ‹_›, (Except.ok.inj h).symm⟩))))
    · exact .inr (.inr (.inr (.inl ⟨rfl, by simp_all, (Except.ok.inj h).symm⟩)))
  · unfold takeCmd at h
    rw [bufWrite_of_lt (hmax 2 (by omega))] at h
    exact .inr (.inr (.inr (.inr (.inr (.inl ⟨rfl, (Except.ok.inj h).symm⟩)))))
  · unfold takeData at h
    rcases hb : bufWrite s.idx.toNat b s with f | u
    · simp [hb, Except.map] at h
    · obtain ⟨hi, rfl⟩ := bufWrite_ok hb
      rw [hb] at h
      exact .inr (.inr (.inr (.inr (.inr (.inr (.inl ⟨rfl, hi, (Except.ok.inj h).symm⟩))))))
  · unfold takeCsum at h
    rcases hb : bufWrite s.idx.toNat b s with f | u
    · simp [hb, Except.map] at h
    · obtain ⟨hi, rfl⟩ := bufWrite_ok hb
      rw [hb] at h
      exact .inr (.inr (.inr (.inr (.inr (.inr (.inr ⟨rfl, hi, (Except.ok.inj h).symm⟩))))))

/-- A byte faults only at an index above the buffer, in `P_DATA` or `P_CSUM`. -/
theorem takeByte_error {b : Byte} {s : State} {f : Fault} (h : takeByte b s = .error f) :
    f = .bufIndex ∧ (s.pstate = .data ∨ s.pstate = .csum) ∧ Config.maxFrame ≤ s.idx.toNat := by
  have hmax : ∀ i, i < 8 → i < Config.maxFrame := fun _ h => h
  cases hp : s.pstate <;> simp only [takeByte, hp] at h
  · cases h
  · unfold takeHunt at h
    split at h
    · rw [bufWrite_of_lt (hmax 0 (by omega))] at h; cases h
    · cases h
  · unfold takeLen at h
    split at h
    · rw [bufWrite_of_lt (hmax 1 (by omega))] at h; cases h
    · cases h
  · unfold takeCmd at h
    rw [bufWrite_of_lt (hmax 2 (by omega))] at h; cases h
  all_goals
    by_cases hi : s.idx.toNat < Config.maxFrame
    · simp [takeData, takeCsum, bufWrite_of_lt hi, Except.map] at h
    · simp only [takeData, takeCsum, bufWrite, if_neg hi, Except.map, Except.error.injEq] at h
      exact ⟨h.symm, by simp, Nat.le_of_not_lt hi⟩

/-! ### End of a frame -/

/-- What the checks at the end of a frame come to (R130). -/
theorem endOfFrame_cases (b : Byte) (s : State) :
    (checksumGood s.sum b = false ∧ endOfFrame b s = failCommit .checksum s) ∨
    (checksumGood s.sum b = true ∧ s.bufAt 2 ≠ s.expect ∧ endOfFrame b s = failCommit .command s) ∨
    (checksumGood s.sum b = true ∧ s.bufAt 2 = s.expect ∧ s.curOp ≠ Config.opRecv ∧ s.len ≠ Config.lenMeas ∧
      endOfFrame b s = failCommit .length s) ∨
    (checksumGood s.sum b = true ∧ s.bufAt 2 = s.expect ∧ s.curOp = Config.opRecv ∧ endOfFrame b s = commitRecv s) ∨
    (checksumGood s.sum b = true ∧ s.bufAt 2 = s.expect ∧ s.curOp ≠ Config.opRecv ∧ s.len = Config.lenMeas ∧
      endOfFrame b s = commitMeasurement s) := by
  by_cases h1 : checksumGood s.sum b = false
  · exact .inl ⟨h1, by simp [endOfFrame, h1]⟩
  · have h1' : checksumGood s.sum b = true := by simpa using h1
    by_cases h2 : s.bufAt 2 = s.expect <;> by_cases h3 : s.curOp = Config.opRecv <;>
      by_cases h4 : s.len = Config.lenMeas <;> simp [endOfFrame, h1', h2, h3, h4]

/-! ### Polls -/

/-- What a poll step can do, when it does not fault (R122, R123, R131). -/
theorem pollStep_ok {s t : State} (h : pollStep s = .ok t) :
    (s.budget = 0 ∧ t = exhausted s) ∨
    (s.budget ≠ 0 ∧ s.answer 0 = none ∧ t = chargePoll s) ∨
    (s.budget ≠ 0 ∧ ∃ b, s.answer 0 = some b ∧ takeByte b (chargePoll s) = .ok t) := by
  unfold pollStep at h
  split at h
  · exact .inl ⟨‹_›, (Except.ok.inj h).symm⟩
  · split at h
    · exact .inr (.inl ⟨‹_›, ‹_›, (Except.ok.inj h).symm⟩)
    · exact .inr (.inr ⟨‹_›, _, ‹_›, h⟩)

/-- A poll step faults only at an index above the buffer. -/
theorem pollStep_error {s : State} {f : Fault} (h : pollStep s = .error f) :
    f = .bufIndex ∧ (s.pstate = .data ∨ s.pstate = .csum) ∧ Config.maxFrame ≤ s.idx.toNat := by
  unfold pollStep at h
  split at h
  · cases h
  · split at h
    · cases h
    · simpa using takeByte_error h

/-- Whatever a poll step keeps, a run of poll steps keeps. -/
theorem pollMany_keeps {P : State → Prop} (hP : ∀ s t, s.pstate ≠ .idle → P s → pollStep s = .ok t → P t) :
    ∀ (n : Nat) (s t : State), P s → pollMany n s = .ok t → P t
  | 0, s, t, hs, h => by
    cases h
    exact hs
  | n + 1, s, t, hs, h => by
    rw [pollMany] at h
    split at h
    · cases h
      exact hs
    · rcases hq : pollStep s with f | u
      · simp [hq] at h
      · rw [hq] at h
        exact pollMany_keeps hP n u t (hP s u ‹_› hs hq) h

/-- A run of poll steps faults only where a poll step of a kept state does. -/
theorem pollMany_no_error {P : State → Prop} (hP : ∀ s t, s.pstate ≠ .idle → P s → pollStep s = .ok t → P t)
    (hE : ∀ s f, s.pstate ≠ .idle → P s → pollStep s ≠ .error f) :
    ∀ (n : Nat) (s : State) (f : Fault), P s → pollMany n s ≠ .error f
  | 0, s, f, _ => by simp [pollMany]
  | n + 1, s, f, hs => by
    rw [pollMany]
    split
    · simp
    · rcases hq : pollStep s with g | u
      · exact absurd hq (hE s g ‹_› hs)
      · exact pollMany_no_error hP hE n u f (hP s u ‹_› hs hq)

/-! ### The engine's own step -/

/-- What a write step can do, when it does not fault (R153, R155). -/
theorem writeStep_ok {s t : State} (h : writeStep s = .ok t) :
    (s.curOp = Config.opInit ∧ s.phase = .startFrame ∧
      t = { writeFrame Config.cmdStart [] s with phase := .autoFrame }) ∨
    (s.curOp = Config.opInit ∧ s.phase = .autoFrame ∧
      t = { writeFrame Config.cmdEnAuto [] s with phase := .readFrame }) ∨
    ((s.curOp = Config.opReadpm ∨ s.curOp = Config.opInit) ∧ s.phase = .readFrame ∧
      t = startRead Config.cmdRead s.readBudget { writeFrame Config.cmdRead [] s with phase := .reading }) := by
  unfold writeStep at h
  split at h
  · next hc => exact .inl ⟨hc.1, hc.2, (Except.ok.inj h).symm⟩
  · split at h
    · next hc => exact .inr (.inl ⟨hc.1, hc.2, (Except.ok.inj h).symm⟩)
    · split at h
      · next hc => exact .inr (.inr ⟨hc.1, hc.2, (Except.ok.inj h).symm⟩)
      · cases h

/-- What the engine's own step can do. -/
theorem engineStep_next {s t : State} (h : engineStep s = .next t) :
    (s.pstate ≠ .idle ∧ pollStep s = .ok t) ∨
    (s.pstate = .idle ∧ s.busy = true ∧ writeStep s = .ok t) ∨
    (s.pstate = .idle ∧ s.busy = false ∧ t = s) := by
  unfold engineStep at h
  split at h
  · exact .inl ⟨‹_›, outcome_next h⟩
  · next hp =>
    have hp' : s.pstate = .idle := by simpa using hp
    split at h
    · exact .inr (.inl ⟨hp', ‹_›, outcome_next h⟩)
    · refine .inr (.inr ⟨hp', by simp_all, ?_⟩)
      injection h with h
      exact h.symm

/-! ### Frames -/

/-- What a frame on the link can do, when it is not refused and does not fault (R104, R188, R43, R122). -/
theorem frameEffect_next {dir : Dir} {c : Byte} {ds : List Byte} {k : Byte} {s t : State}
    (h : frameEffect dir c ds k s = .next t) :
    (dir = .tx ∧ isCommand c = true ∧ k = csum8 (frameBody c ds) ∧
      t = whenIdle (sendFrame Config.opSend c ds) s) ∨
    (dir = .rx ∧ receiveBytes (wireFrame Config.head c ds k) s = .ok t) := by
  cases dir with
  | tx =>
    simp only [frameEffect] at h
    split at h
    · next hc =>
      simp only [Bool.and_eq_true, beq_iff_eq] at hc
      injection h with h
      exact .inl ⟨rfl, hc.1, hc.2, h.symm⟩
    · cases h
  | rx => exact .inr ⟨rfl, outcome_next h⟩

end Sys2Proof.Machine
end

