-- ==== Sys2Proof/Laws/Step.lean ====
section
/-!
SUPPORT. What exec and step can do, said once: every next state of exec is one of the moves below, and every next state of
step is a move, a step of the engine's own, or the effect of an input that is no instruction.
-/

namespace Sys2Proof.Machine

/-- The moves of the instructions. -/
inductive ExecMove (s : State) : State → Prop where
  /-- A non-accessor operation while busy (R188). -/
  | ignored (h : s.busy = true) : ExecMove s s
  /-- A legal SEND, a named command operation or a frame on the TX side (R104 to R108). -/
  | sent (op : BitVec 4) (c : Byte) (ps : List Byte) (h : s.busy = false) (hop : op ≠ 0) (hc : isCommand c = true)
      (hn : ps.length ≤ 4) : ExecMove s (sendFrame op c ps s)
  /-- A reserved code or illegal operands (R73, R187). -/
  | refused (op : BitVec 4) (h : s.busy = false) : ExecMove s (refuseOp (prologue op s))
  /-- The start of RECV (R121). -/
  | recvStarted (e : Byte) (b : Half) (h : s.busy = false) (he : isCommand e = true) :
      ExecMove s (startRead e b (prologue Config.opRecv s))
  /-- The start of READPM (R153). -/
  | readpmStarted (h : s.busy = false) : ExecMove s { prologue Config.opReadpm s with phase := .readFrame }
  /-- The start of INIT (R155). -/
  | initStarted (h : s.busy = false) : ExecMove s { prologue Config.opInit s with phase := .startFrame }
  /-- An accessor (R156 to R158). -/
  | accessed (v : Half) : ExecMove s (setRdata v s)
  /-- A frame on the RX side (R43, R122). -/
  | received (bytes : List Byte) (t : State) (h : receiveBytes bytes s = .ok t) : ExecMove s t

theorem paramList_length_le (n : BitVec 3) (p0 p1 p2 p3 : Byte) : (paramList n p0 p1 p2 p3).length ≤ 4 := by
  simp [paramList]

/-- A non-accessor's move: ignored while busy, `f` otherwise. -/
theorem whenIdle_move {s t : State} {f : State → State} (hf : s.busy = false → ExecMove s (f s))
    (h : (Host.Outcome.next (whenIdle f s) : Result) = .next t) : ExecMove s t := by
  injection h with h
  subst h
  rcases hb : s.busy
  · simpa [hb] using hf hb
  · simpa [hb] using ExecMove.ignored hb

theorem frameEffect_move {dir : Dir} {c : Byte} {ds : List Byte} {k : Byte} {s t : State} (hn : ds.length ≤ 4)
    (h : frameEffect dir c ds k s = .next t) : ExecMove s t := by
  rcases frameEffect_next h with ⟨-, hc, -, rfl⟩ | ⟨-, h⟩
  · exact whenIdle_move (fun hb => .sent _ c ds hb (by decide) hc hn) rfl
  · exact .received _ t h

theorem next_move {s t u : State} (hm : ExecMove s u) (h : (Host.Outcome.next u : Result) = .next t) :
    ExecMove s t := by
  injection h with h
  exact h ▸ hm

/-- Every next state of exec is a move. -/
theorem exec_move {i : Instr} {s t : State} (h : exec i s = .next t) : ExecMove s t := by
  cases i <;> simp only [exec] at h
  case send cmd n p0 p1 p2 p3 =>
    refine whenIdle_move (fun hb => ?_) h
    split
    · next hl => exact .sent _ cmd _ hb (by decide) (by simp_all [sendLegal]) (paramList_length_le ..)
    · exact .refused _ hb
  case recv cmd bud =>
    refine whenIdle_move (fun hb => ?_) h
    split
    · next hl => exact .recvStarted cmd bud hb hl
    · exact .refused _ hb
  case start => exact whenIdle_move (fun hb => .sent _ _ [] hb (by decide) (by decide) (by decide)) h
  case stop => exact whenIdle_move (fun hb => .sent _ _ [] hb (by decide) (by decide) (by decide)) h
  case enauto => exact whenIdle_move (fun hb => .sent _ _ [] hb (by decide) (by decide) (by decide)) h
  case disauto => exact whenIdle_move (fun hb => .sent _ _ [] hb (by decide) (by decide) (by decide)) h
  case readpm => exact whenIdle_move (fun hb => .readpmStarted hb) h
  case init => exact whenIdle_move (fun hb => .initStarted hb) h
  case getpm25 => exact next_move (.accessed _) h
  case getpm10 => exact next_move (.accessed _) h
  case status => exact next_move (.accessed _) h
  case reserved0 => exact whenIdle_move (fun hb => .refused _ hb) h
  case reservedC => exact whenIdle_move (fun hb => .refused _ hb) h
  case reservedD => exact whenIdle_move (fun hb => .refused _ hb) h
  case reservedE => exact whenIdle_move (fun hb => .refused _ hb) h
  case reservedF => exact whenIdle_move (fun hb => .refused _ hb) h
  case frameCmdStart => exact whenIdle_move (fun hb => .sent _ _ [] hb (by decide) (by decide) (by decide)) h
  case frameCmdStop => exact whenIdle_move (fun hb => .sent _ _ [] hb (by decide) (by decide) (by decide)) h
  case frameCmdRead => exact whenIdle_move (fun hb => .sent _ _ [] hb (by decide) (by decide) (by decide)) h
  case frameCmdCoeffNodata => exact whenIdle_move (fun hb => .sent _ _ [] hb (by decide) (by decide) (by decide)) h
  case frameCmdStopAuto => exact whenIdle_move (fun hb => .sent _ _ [] hb (by decide) (by decide) (by decide)) h
  case frameCmdEnAuto => exact whenIdle_move (fun hb => .sent _ _ [] hb (by decide) (by decide) (by decide)) h
  case frameLen1 dir c k => exact frameEffect_move (by simp) h
  case frameLen2 dir c a k => exact frameEffect_move (by simp) h
  case frameLen3 dir c a b k => exact frameEffect_move (by simp) h
  case frameLen4 dir c a b d k => exact frameEffect_move (by simp) h
  case frameLen5 dir c a b d e k => exact frameEffect_move (by simp) h
  case frameRspMeasurement a b d e k => exact frameEffect_move (by simp) h

/-- What an input that was fetched can do: a move of an instruction, or bytes received that are no frame. -/
theorem runFetch_move {f : Fetch} {s t : State} (h : runFetch f s = .next t) : ExecMove s t := by
  unfold runFetch at h
  split at h
  · exact exec_move h
  · next e he =>
    unfold undecoded at h
    split at h
    · exact .received _ t (outcome_next h)
    · cases h
    · simp [decode] at he

/-- Every next state of step. -/
theorem step_next {s t : State} (h : step s = .next t) :
    (s.inputs = [] ∧ engineStep s = .next t) ∨
    ((∃ l, s.inputs = .pass :: l) ∧ engineStep (dropInput s) = .next t) ∨
    ((∃ l, s.inputs = .awaitDone :: l) ∧ s.busy = true ∧ engineStep s = .next t) ∨
    ((∃ l, s.inputs = .awaitDone :: l) ∧ s.busy = false ∧ t = dropInput s) ∨
    ((∃ w l, s.inputs = .present w :: l) ∧ ExecMove (dropInput s) t) ∨
    ((∃ d b l, s.inputs = .link d b :: l) ∧ ExecMove (dropInput s) t) ∨
    (∃ r l, s.inputs = .readReg r :: l ∧ t = setRdata (creg r s) (dropInput s)) ∨
    (∃ l, s.inputs = .reset :: l ∧ t = applyReset (dropInput s)) := by
  unfold step at h
  split at h
  · exact .inl ⟨‹_›, h⟩
  · exact .inr (.inl ⟨⟨_, ‹_›⟩, h⟩)
  · next l hi =>
    split at h
    · exact .inr (.inr (.inl ⟨⟨_, hi⟩, ‹_›, h⟩))
    · injection h with h
      exact .inr (.inr (.inr (.inl ⟨⟨_, hi⟩, by simp_all, h.symm⟩)))
  · exact .inr (.inr (.inr (.inr (.inl ⟨⟨_, _, ‹_›⟩, runFetch_move h⟩))))
  · exact .inr (.inr (.inr (.inr (.inr (.inl ⟨⟨_, _, _, ‹_›⟩, runFetch_move h⟩)))))
  · injection h with h
    exact .inr (.inr (.inr (.inr (.inr (.inr (.inl ⟨_, _, ‹_›, h.symm⟩))))))
  · injection h with h
    exact .inr (.inr (.inr (.inr (.inr (.inr (.inr ⟨_, ‹_›, h.symm⟩))))))

end Sys2Proof.Machine
end

