-- ==== Sys2Proof/Laws/Inputs.lean ====
section
/-!
SUPPORT. The engine's own step reads no input: it commutes with a change of the inputs still to come (spec/20_memory.md R51).
-/

namespace Sys2Proof.Machine

/-- The same state with other inputs still to come. -/
def withInputs (l : List Event) (s : State) : State := { s with inputs := l }

theorem endOfFrame_inputs (b : Byte) (s : State) (l : List Event) :
    endOfFrame b (withInputs l s) = withInputs l (endOfFrame b s) := by
  have hb (i : Nat) : (withInputs l s).bufAt i = s.bufAt i := rfl
  have he : (withInputs l s).expect = s.expect := rfl
  have hc : (withInputs l s).curOp = s.curOp := rfl
  have hl : (withInputs l s).len = s.len := rfl
  have hs : (withInputs l s).sum = s.sum := rfl
  unfold endOfFrame
  rw [hb, he, hc, hl, hs]
  split_ifs <;> rfl

theorem takeByte_inputs (b : Byte) (s : State) (l : List Event) :
    takeByte b (withInputs l s) = (takeByte b s).map (withInputs l) := by
  have hp : (withInputs l s).pstate = s.pstate := rfl
  have hw (i : Nat) (b : Byte) : bufWrite i b (withInputs l s) = (bufWrite i b s).map (withInputs l) := by
    unfold bufWrite
    split <;> rfl
  unfold takeByte
  rw [hp]
  cases s.pstate
  · rfl
  · show takeHunt b (withInputs l s) = _
    unfold takeHunt
    split
    · rw [hw]
      cases bufWrite 0 b s <;> rfl
    · rfl
  · show takeLen b (withInputs l s) = _
    unfold takeLen
    split
    · rw [hw]
      cases bufWrite 1 b s <;> rfl
    · rfl
  · show takeCmd b (withInputs l s) = _
    unfold takeCmd
    rw [hw]
    cases bufWrite 2 b s <;> rfl
  · show takeData b (withInputs l s) = _
    unfold takeData
    rw [show (withInputs l s).idx = s.idx from rfl, hw]
    cases bufWrite s.idx.toNat b s <;> rfl
  · show takeCsum b (withInputs l s) = _
    unfold takeCsum
    rw [show (withInputs l s).idx = s.idx from rfl, hw]
    cases bufWrite s.idx.toNat b s with
    | error f => rfl
    | ok u => exact congrArg Except.ok (endOfFrame_inputs b u l)

theorem pollStep_inputs (s : State) (l : List Event) :
    pollStep (withInputs l s) = (pollStep s).map (withInputs l) := by
  have hb : (withInputs l s).budget = s.budget := rfl
  have ha : (withInputs l s).answer 0 = s.answer 0 := rfl
  unfold pollStep
  rw [hb, ha]
  split
  · rfl
  · split
    · rfl
    · exact takeByte_inputs _ (chargePoll s) l

theorem writeStep_inputs (s : State) (l : List Event) :
    writeStep (withInputs l s) = (writeStep s).map (withInputs l) := by
  have hc : (withInputs l s).curOp = s.curOp := rfl
  have hp : (withInputs l s).phase = s.phase := rfl
  unfold writeStep
  rw [hc, hp]
  split_ifs <;> rfl

/-- The engine's own step reads no input and leaves the inputs as they are. -/
theorem engineStep_inputs (s : State) (l : List Event) :
    engineStep (withInputs l s) =
      match engineStep s with
      | .next t => .next (withInputs l t)
      | .fault f => .fault f
      | .refused r => .refused r := by
  have hp : (withInputs l s).pstate = s.pstate := rfl
  have hb : (withInputs l s).busy = s.busy := rfl
  unfold engineStep
  rw [hp, hb, pollStep_inputs, writeStep_inputs]
  split_ifs
  · cases pollStep s <;> rfl
  · cases writeStep s <;> rfl
  · rfl

end Sys2Proof.Machine
end

