-- ==== Sys2Proof/Laws/Run.lean ====
section
/-!
SUPPORT. Runs, one step at a time; and the induction over a run, packaged once.
-/

namespace Sys2Proof.Machine

@[simp] theorem runSteps_zero (s : State) : runSteps 0 s = .next s := rfl

/-- The host's run, one step at a time. -/
theorem run_succ (M : Host.Core) (n : Nat) (s : M.State) :
    M.run (n + 1) s =
      match M.step s with
      | .next t => M.run n t
      | .fault f => .fault f
      | .refused r => .refused r := rfl

theorem run_next {M : Host.Core} {n : Nat} {s t : M.State} (h : M.step s = .next t) : M.run (n + 1) s = M.run n t := by
  rw [run_succ, h]

theorem run_fault {M : Host.Core} {n : Nat} {s : M.State} {f : M.Fault} (h : M.step s = .fault f) : M.run (n + 1) s = .fault f := by
  rw [run_succ, h]

theorem run_refused {M : Host.Core} {n : Nat} {s : M.State} {f : M.Refusal} (h : M.step s = .refused f) : M.run (n + 1) s = .refused f := by
  rw [run_succ, h]

theorem runSteps_succ (n : Nat) (s : State) :
    runSteps (n + 1) s =
      match step s with
      | .next t => runSteps n t
      | .fault f => .fault f
      | .refused r => .refused r := by
  rcases hq : step s with t | f | r
  · exact run_next (M := Sys2Proof.core) hq
  · exact run_fault (M := Sys2Proof.core) hq
  · exact run_refused (M := Sys2Proof.core) hq

/-- One step more, where the first one goes on. -/
theorem runSteps_of_step {n : Nat} {s t : State} (h : step s = .next t) : runSteps (n + 1) s = runSteps n t := by
  rw [runSteps_succ, h]

/-- Two runs, one behind the other. -/
theorem runSteps_add {m n : Nat} {s t : State} (h : runSteps m s = .next t) : runSteps (m + n) s = runSteps n t := by
  induction m generalizing s with
  | zero =>
    injection h with h
    rw [h, Nat.zero_add]
  | succ m ih =>
    rw [Nat.add_right_comm, runSteps_succ]
    rw [runSteps_succ] at h
    split at h
    · exact ih h
    · cases h
    · cases h

/-- What every step keeps and rules a fault out rules one out of every run. -/
theorem neverFaults_of {P : State → Prop} (hkeep : ∀ s t, P s → step s = .next t → P t)
    (hsafe : ∀ s f, P s → step s ≠ .fault f) (s : State) (hs : P s) : NeverFaults s := by
  intro n
  induction n generalizing s with
  | zero => intro f h; cases h
  | succ n ih =>
    intro f h
    rw [runSteps_succ] at h
    rcases hq : step s with t | g | r
    · exact ih t (hkeep s t hs hq) f (by simpa [hq] using h)
    · exact hsafe s g hs hq
    · simp [hq] at h

/-- With no input left, the engine's own step is the step. -/
theorem step_alone {s : State} (h : s.inputs = []) : step s = engineStep s := by
  simp [step, h]

/-- With no input left and a read in progress, the step is the poll step (R122). -/
theorem step_reading {s : State} (h : s.inputs = []) (hp : s.pstate ≠ .idle) : step s = outcome (pollStep s) := by
  rw [step_alone h, engineStep, if_pos hp]

end Sys2Proof.Machine
end

