-- ==== Sys2Proof/Tests/Slice0.lean ====
section
/-!
SUPPORT. Tests: what WellFormed refuses, words and frames written out from the spec's encodings, single steps with results
taken from spec/95_test_vectors.md, and for each statement with hypotheses a witness that meets them.
-/

namespace Sys2Proof.Tests

open Sys2Proof Sys2Proof.Machine

/-! ### Small states -/

/-- Reset, with READ_BUDGET = 8 as in most vectors of 95_test_vectors.md. -/
def base : State := { State.reset with readBudget := 8 }

/-- The same, with the transport's next answers. -/
def offered (bytes : List Byte) : State := { base with rx := bytes.map some }

/-- A read that hunts for its head: operation `op`, expected command `e`, budget `b`. -/
def hunting (op : BitVec 4) (e : Byte) (b : Half) : State :=
  { base with
    busy := true, curOp := op, expect := e, budget := b, pstate := .hunt
    phase := if op = 0x2 then .startFrame else .reading }

/-- The nominal read of 95_test_vectors.md V-PA1 with its first seven bytes taken, one poll left. -/
def lastByteDue (op : BitVec 4) : State :=
  { hunting op 0x04 1 with
    pstate := .csum, idx := 7, len := 5, sum := 0xA6
    buf := [(0, 0x40), (1, 0x05), (2, 0x04), (4, 0x23), (6, 0x3A)] }

/-- READPM after its start step, its frame still to be written. -/
def frameDue : State := { base with busy := true, curOp := 0x7, phase := .readFrame }

/-- The next state, if there is one. -/
def got (r : Result) : Option State :=
  match r with
  | .next s => some s
  | _ => none

theorem next_of_got {r : Result} {t : State} (h : got r = some t) : r = .next t := by
  cases r <;> simp_all [got]

/-- The name of a refusal, if it is one. -/
def refusedAs (r : Result) : Option Refusal :=
  match r with
  | .refused x => some x
  | _ => none

theorem refused_of_refusedAs {r : Result} {x : Refusal} (h : refusedAs r = some x) : r = .refused x := by
  cases r <;> simp_all [refusedAs]

/-- The invariant as a test. -/
def invHolds (s : State) : Bool :=
  Memory.wf s.buf && decide (s.status = 0x00 ∨ s.status = 0x01) && decide (s.resOk = true → s.resCause = .none) &&
    decide (s.busy = false → s.curOp ≠ 0 → s.resOk = false → s.resCause ≠ .none) &&
    decide (s.busy = false → s.pstate = .idle) &&
    decide (s.busy = true → s.resOk = false ∧ s.resCause = .none ∧ s.resN = 0 ∧ s.resData = ⟨0, 0, 0, 0⟩) &&
    decide (s.resN.toNat ≤ 4 ∧ (s.resN.toNat ≤ 3 → s.resData.d3 = 0) ∧ (s.resN.toNat ≤ 2 → s.resData.d2 = 0) ∧
      (s.resN.toNat ≤ 1 → s.resData.d1 = 0) ∧ (s.resN.toNat = 0 → s.resData.d0 = 0)) &&
    decide (s.busy = true → s.pstate = .idle →
      (s.curOp = 0x8 ∧ s.phase ≠ .reading) ∨ (s.curOp = 0x7 ∧ s.phase = .readFrame)) &&
    decide (s.pstate ≠ .idle →
      (s.curOp = 0x2 ∧ isCommand s.expect = true) ∨
        ((s.curOp = 0x7 ∨ s.curOp = 0x8) ∧ s.expect = 0x04 ∧ s.phase = .reading)) &&
    match s.pstate with
    | .idle => true
    | .hunt => decide (s.idx = 0 ∧ s.sum = 0 ∧ s.len = 0)
    | .len => decide (s.idx = 1 ∧ s.bufAt 0 = 0x40 ∧ s.sum = sum8 (taken s))
    | .cmd =>
      decide (s.idx = 2 ∧ (lenOk s.len = true ∧ s.bufAt 1 = s.len) ∧ s.bufAt 0 = 0x40 ∧ s.sum = sum8 (taken s))
    | .data =>
      decide (3 ≤ s.idx.toNat ∧ s.idx.toNat ≤ s.len.toNat + 1 ∧ (lenOk s.len = true ∧ s.bufAt 1 = s.len) ∧
        s.bufAt 0 = 0x40 ∧ s.sum = sum8 (taken s))
    | .csum =>
      decide (s.idx.toNat = s.len.toNat + 2 ∧ (lenOk s.len = true ∧ s.bufAt 1 = s.len) ∧ s.bufAt 0 = 0x40 ∧
        s.sum = sum8 (taken s))

theorem inv_of_invHolds {s : State} (h : invHolds s = true) : Inv s := by
  simp only [invHolds, Bool.and_eq_true, decide_eq_true_eq] at h
  obtain ⟨⟨⟨⟨⟨⟨⟨⟨⟨h1, h2⟩, h3⟩, h4⟩, h5⟩, h6⟩, h7⟩, h8⟩, h9⟩, h10⟩ := h
  refine ⟨h1, h2, h3, h4, h5, h6, h7, h8, h9, ?_⟩
  unfold ParserInv
  split <;> simp_all [Candidate, LengthTaken, Config.head]

/-! ### WellFormed refuses what it should, check by check -/

/-- Check `txCommandOk`: 0x03 is reserved (R69), the checksum is right. -/
theorem test_wf_reserved_command : (Instr.frameLen2 .tx 0x03 0x64 0x57).wellFormed = false := by decide
/-- Check `txChecksumOk`: 0x53 where the encoder computes 0x52 (R100). -/
theorem test_wf_wrong_checksum : (Instr.frameLen2 .tx 0x08 0x64 0x53).wellFormed = false := by decide
/-- A parameterless frame on TX is one of the six fixed rows (R70). -/
theorem test_wf_fixed_row : (Instr.frameLen1 .tx 0x01 0xBE).wellFormed = false := by decide
/-- A frame of length 5 for command 0x04 on RX is the measurement response (R64). -/
theorem test_wf_measurement_row : (Instr.frameLen5 .rx 0x04 0x00 0x23 0x00 0x3A 0x5A).wellFormed = false := by decide
/-- The sound neighbours of these four are well formed. -/
theorem test_wf_neighbours :
    ∀ i ∈ [Instr.frameLen2 .tx 0x08 0x64 0x52, .frameLen2 .rx 0x03 0x64 0x57, .frameLen1 .rx 0x01 0xBE,
      .frameLen5 .tx 0x08 0xFF 0xFF 0xFF 0xFF 0xB7, .frameRspMeasurement 0x00 0x23 0x00 0x3A 0x5A],
      i.wellFormed = true := by decide

/-! ### Decoding: words and frames written out from R71, R72, R60, R64 and R70 -/

/-- 95_test_vectors.md PRG2 step 3: op 1, cmd 08 at bits 11:4, nparam 1 at 14:12, p0 64 at 23:16. -/
theorem test_decode_send : decodeWord 0x0000000000641081 = .send 0x08 1 0x64 0 0 0 := by decide
/-- Every field of SEND at a value of its own: p3 p2 p1 p0 = 44 33 22 11, nparam 4, bit 15 set and ignored. -/
theorem test_decode_send_fields : decodeWord 0xFFFF44332211C401 = .send 0x40 4 0x11 0x22 0x33 0x44 := by decide
/-- PRG2 step 4: op 2, cmd 08, bud 0010. -/
theorem test_decode_recv : decodeWord 0x0010000000000082 = .recv 0x08 16 := by decide
theorem test_decode_start : decodeWord 0x0000000000000003 = .start := by decide
theorem test_decode_stop : decodeWord 0x0000000000000004 = .stop := by decide
theorem test_decode_enauto : decodeWord 0x0000000000000005 = .enauto := by decide
theorem test_decode_disauto : decodeWord 0x0000000000000006 = .disauto := by decide
theorem test_decode_readpm : decodeWord 0x0000000000000007 = .readpm := by decide
theorem test_decode_init : decodeWord 0x0000000000000008 = .init := by decide
theorem test_decode_getpm25 : decodeWord 0x0000000000000009 = .getpm25 := by decide
theorem test_decode_getpm10 : decodeWord 0x000000000000000A = .getpm10 := by decide
/-- STATUS, with every ignored bit set (R71). -/
theorem test_decode_status : decodeWord 0xFFFFFFFFFFFFFFFB = .status := by decide
theorem test_decode_reserved :
    [0x0, 0xC, 0xD, 0xE, 0xF].map decodeWord = [.reserved0, .reservedC, .reservedD, .reservedE, .reservedF] := by
  decide
theorem test_decode_cmd_start : decodeFrame .tx [0x40, 0x01, 0x01, 0xBE] = .ok .frameCmdStart := by rfl
theorem test_decode_cmd_stop : decodeFrame .tx [0x40, 0x01, 0x02, 0xBD] = .ok .frameCmdStop := by rfl
theorem test_decode_cmd_read : decodeFrame .tx [0x40, 0x01, 0x04, 0xBB] = .ok .frameCmdRead := by rfl
theorem test_decode_cmd_coeff : decodeFrame .tx [0x40, 0x01, 0x08, 0xB7] = .ok .frameCmdCoeffNodata := by rfl
theorem test_decode_cmd_stop_auto : decodeFrame .tx [0x40, 0x01, 0x20, 0x9F] = .ok .frameCmdStopAuto := by rfl
theorem test_decode_cmd_en_auto : decodeFrame .tx [0x40, 0x01, 0x40, 0x7F] = .ok .frameCmdEnAuto := by rfl
theorem test_decode_len1 : decodeFrame .rx [0x40, 0x01, 0x01, 0xBE] = .ok (.frameLen1 .rx 0x01 0xBE) := by rfl
theorem test_decode_len2 : decodeFrame .tx [0x40, 0x02, 0x08, 0x64, 0x52] = .ok (.frameLen2 .tx 0x08 0x64 0x52) := by
  rfl
theorem test_decode_len3 :
    decodeFrame .rx [0x40, 0x03, 0x04, 0x00, 0x23, 0x96] = .ok (.frameLen3 .rx 0x04 0x00 0x23 0x96) := by rfl
theorem test_decode_len4 :
    decodeFrame .rx [0x40, 0x04, 0x04, 0x00, 0x23, 0x00, 0x3A] = .ok (.frameLen4 .rx 0x04 0x00 0x23 0x00 0x3A) := by
  rfl
theorem test_decode_len5 :
    decodeFrame .tx [0x40, 0x05, 0x08, 0xFF, 0xFF, 0xFF, 0xFF, 0xB7] =
      .ok (.frameLen5 .tx 0x08 0xFF 0xFF 0xFF 0xFF 0xB7) := by rfl
theorem test_decode_measurement :
    decodeFrame .rx [0x40, 0x05, 0x04, 0x00, 0x23, 0x00, 0x3A, 0x5A] =
      .ok (.frameRspMeasurement 0x00 0x23 0x00 0x3A 0x5A) := by rfl

/-- What is no frame is refused by name: too short, no head, length byte off, reserved command or wrong checksum on TX. -/
theorem test_decode_errors :
    decodeFrame .rx [0x40, 0x01, 0x01] = .error .frameSize ∧
    decodeFrame .rx [0x41, 0x01, 0x01, 0xBD] = .error .noHead ∧
    decodeFrame .rx [0x40, 0x02, 0x01, 0xBD] = .error .lengthMismatch ∧
    decodeFrame .tx [0x40, 0x01, 0x03, 0xBC] = .error .reservedCommand ∧
    decodeFrame .tx [0x40, 0x01, 0x01, 0xBF] = .error .checksumNotBuilt := ⟨rfl, rfl, rfl, rfl, rfl⟩

/-- The opcode table's own bits: FRAME_CMD_START is 0x400101BE, a host word is itself, a short row has zeros above. -/
theorem test_table_words :
    decodeTableWord 32 0x400101BE = some .frameCmdStart ∧ decodeTableWord 64 0x641081 = some (.send 0x08 1 0x64 0 0 0) ∧
    decodeTableWord 8 0x07 = some .readpm ∧
    decodeTableWord 64 0x4005040023003A5A = some (.frameRspMeasurement 0x00 0x23 0x00 0x3A 0x5A) ∧
    decodeTableWord 40 0x4002086452 = some (.frameLen2 .rx 0x08 0x64 0x52) := by decide

/-! ### Single steps; results from 95_test_vectors.md -/

/-- V-EN11. -/
theorem test_send :
    (got (exec (.send 0x20 1 0x40 0xFF 0xFF 0xFF) base)).map (fun t => (t.tx, t.mode, t.resOk, t.status)) =
      some ([0x40, 0x02, 0x20, 0x40, 0x5E], .stopped, true, 0x01) := by decide
/-- V-EN14: nparam 5. -/
theorem test_send_illegal :
    (got (exec (.send 0x01 5 0 0 0 0) base)).map (fun t => (t.tx, t.mode, t.resOk, t.resCause)) =
      some ([], .idle, false, .illegalOp) := by decide
/-- 42_parser.md R121 from the start step of PRG2 step 4. -/
theorem test_recv :
    (got (exec (.recv 0x08 16) base)).map (fun t => (t.pstate, t.expect, t.budget, t.busy, t.curOp)) =
      some (.hunt, 0x08, 16, true, 0x2) := by decide
/-- V-OP2. -/
theorem test_recv_illegal :
    (got (exec (.recv 0x10 16) base)).map (fun t => (t.resOk, t.resCause, t.status, t.pstate, t.busy)) =
      some (false, .illegalOp, 0x01, .idle, false) := by decide
/-- V-EN1. -/
theorem test_start :
    (got (exec .start base)).map (fun t => (t.tx, t.mode)) = some ([0x40, 0x01, 0x01, 0xBE], .measuring) := by decide
/-- V-EN2. -/
theorem test_stop :
    (got (exec .stop base)).map (fun t => (t.tx, t.mode)) = some ([0x40, 0x01, 0x02, 0xBD], .stopped) := by decide
/-- V-EN3. -/
theorem test_enauto :
    (got (exec .enauto base)).map (fun t => (t.tx, t.mode)) = some ([0x40, 0x01, 0x40, 0x7F], .measuring) := by decide
/-- V-EN4. -/
theorem test_disauto :
    (got (exec .disauto base)).map (fun t => (t.tx, t.mode)) = some ([0x40, 0x01, 0x20, 0x9F], .stopped) := by decide
/-- R153: nothing is written or polled by the start step. -/
theorem test_readpm :
    (got (exec .readpm (offered [0x40]))).map (fun t => (t.busy, t.phase, t.tx, t.rx.length, t.polls)) =
      some (true, .readFrame, [], 1, 0) := by decide
/-- R153: the write step of READPM. -/
theorem test_readpm_write :
    (got (step frameDue)).map (fun t => (t.tx, t.phase, t.pstate, t.budget, t.expect)) =
      some ([0x40, 0x01, 0x04, 0xBB], .reading, .hunt, 8, 0x04) := by decide
/-- R155: the first write step of INIT. -/
theorem test_init_write :
    (got (step { base with busy := true, curOp := 0x8 })).map (fun t => (t.tx, t.phase, t.mode)) =
      some ([0x40, 0x01, 0x01, 0xBE], .autoFrame, .measuring) := by decide
theorem test_init :
    (got (exec .init base)).map (fun t => (t.busy, t.curOp, t.phase, t.mode)) =
      some (true, 0x8, .startFrame, .idle) := by decide
/-- R156 to R158, in the values of PRG1 steps 3 and 4. -/
theorem test_getpm25 : (got (exec .getpm25 { base with pm25 := 35, pm10 := 58 })).map (·.rdata) = some 35 := by decide
theorem test_getpm10 : (got (exec .getpm10 { base with pm25 := 35, pm10 := 58 })).map (·.rdata) = some 58 := by decide
/-- V-OP1, V-OP7: after reset, and while busy. -/
theorem test_status : (got (exec .status (hunting 0x7 0x04 8))).map (fun t => (t.rdata, t.pstate)) = some (1, .hunt) := by
  decide
/-- V-OP3. -/
theorem test_reserved :
    [Instr.reserved0, .reservedC, .reservedD, .reservedE, .reservedF].map
      (fun i => (got (exec i base)).map (fun t => (t.resOk, t.resCause, t.tx, t.status))) =
      List.replicate 5 (some (false, .illegalOp, [], 0x01)) := by decide
/-- R70, R160. -/
theorem test_frame_cmds :
    [Instr.frameCmdStart, .frameCmdStop, .frameCmdRead, .frameCmdCoeffNodata, .frameCmdStopAuto, .frameCmdEnAuto].map
      (fun i => (got (exec i base)).map (fun t => (t.tx.drop 2, t.mode))) =
      [some ([0x01, 0xBE], .measuring), some ([0x02, 0xBD], .stopped), some ([0x04, 0xBB], .idle),
        some ([0x08, 0xB7], .idle), some ([0x20, 0x9F], .stopped), some ([0x40, 0x7F], .measuring)] := by decide
/-- R122, R188: during a read a frame on the TX side is ignored like any operation. -/
theorem test_frame_cmd_while_busy :
    got (exec .frameCmdStart (hunting 0x7 0x04 8)) = some (hunting 0x7 0x04 8) ∧
    got (exec (.frameLen2 .tx 0x08 0x64 0x52) (hunting 0x7 0x04 8)) = some (hunting 0x7 0x04 8) := by decide
/-- V-PA7, as bytes on the link that are no frame: strays, polled to the end of the budget. -/
theorem test_stray_bytes :
    (got (step { hunting 0x7 0x04 5 with inputs := [.link .rx [0x01, 0x02, 0x03, 0x41, 0x3F]] })).map
      (fun t => (t.pstate, t.budget, t.polls)) = some (.hunt, 0, 5) := by decide
/-- V-PA15 and PRG5 step 2: `40 01 01 BE` is good for RECV 01, a COMMAND failure for READPM. -/
theorem test_frame_len1 :
    [hunting 0x2 0x01 4, hunting 0x7 0x04 8].map
      (fun s => (got (exec (.frameLen1 .rx 0x01 0xBE) s)).map (fun t => (t.resOk, t.resCause, t.budget))) =
      [some (true, .none, 0), some (false, .command, 4)] := by decide
/-- V-EN7 sent; V-PA22 received. -/
theorem test_frame_len2_tx :
    (got (exec (.frameLen2 .tx 0x08 0x64 0x52) base)).map (·.tx) = some [0x40, 0x02, 0x08, 0x64, 0x52] := by decide
theorem test_frame_len2_rx :
    (got (exec (.frameLen2 .rx 0x08 0xB6 0x00) (hunting 0x2 0x08 5))).map (fun t => (t.resOk, t.resN, t.resData)) =
      some (true, 1, ⟨0xB6, 0, 0, 0⟩) := by decide
/-- V-PA13, V-PA14: the measurement shape is asked of READPM only. -/
theorem test_frame_len3 :
    [hunting 0x7 0x04 8, hunting 0x2 0x04 8].map
      (fun s => (got (exec (.frameLen3 .rx 0x04 0x00 0x23 0x96) s)).map (fun t => (t.resCause, t.resN, t.polls))) =
      [some (.length, 0, 6), some (.none, 2, 6)] := by decide
/-- V-PA25. -/
theorem test_frame_len4 :
    (got (exec (.frameLen4 .rx 0x04 0x00 0x23 0x00 0x3A) (hunting 0x7 0x04 8))).map
      (fun t => (t.resCause, t.polls, t.status)) = some (.checksum, 7, 0x01) := by decide
/-- V-PA11. -/
theorem test_frame_len5 :
    (got (exec (.frameLen5 .rx 0x02 0x00 0x23 0x00 0x3A 0x5C) (hunting 0x7 0x04 8))).map
      (fun t => (t.resCause, t.polls, t.pm25)) = some (.command, 8, 0) := by decide
/-- V-PA1, and the source's printed frame S1 (90_conflicts.md C1). -/
theorem test_frame_measurement :
    (got (exec (.frameRspMeasurement 0x00 0x23 0x00 0x3A 0x5A) (hunting 0x7 0x04 8))).map
      (fun t => (t.pm25, t.pm10, t.status, t.resOk, t.budget)) = some (35, 58, 0x00, true, 0) := by decide
theorem test_frame_measurement_as_printed :
    (got (exec (.frameRspMeasurement 0x00 0x23 0x00 0x3A 0xC4) (hunting 0x7 0x04 8))).map
      (fun t => (t.pm25, t.status, t.resCause)) = some (0, 0x01, .checksum) := by decide
/-- The last row of the register trace of V-PA1. -/
theorem test_last_poll :
    (got (step { lastByteDue 0x7 with rx := [some 0x5A] })).map (fun t => (t.pstate, t.idx, t.len, t.sum, t.budget)) =
      some (.idle, 7, 5, 0xA6, 0) := by decide
/-- V-CS4, V-CS5, and `ValidFrame` on 95_test_vectors.md's own list. -/
theorem test_checksum :
    csum8 [0x40, 0x02, 0x08, 0xB6] = 0x00 ∧ csum8 [0x40, 0x05, 0x08, 0xFF, 0xFF, 0xFF, 0xFF] = 0xB7 ∧
    validFrame [0x40, 0x01, 0x01, 0xBE] = true ∧ validFrame [0x41, 0x01, 0x01, 0xBD] = false ∧
    validFrame [0x40, 0x02, 0x01, 0xBD] = false ∧ validFrame [0x40, 0x06, 0x04, 0, 0, 0, 0, 0, 0xB6] = false := by decide

/-! ### Witnesses: for each statement with hypotheses, a state and operands that meet all of them together -/

theorem inv_base : Inv base := inv_of_invHolds (by decide)
theorem inv_frameDue : Inv frameDue := inv_of_invHolds (by decide)
theorem inv_hunting_recv : Inv (hunting 0x2 0x08 5) := inv_of_invHolds (by decide)
theorem inv_hunting_readpm : Inv (hunting 0x7 0x04 8) := inv_of_invHolds (by decide)
theorem inv_hunting_init : Inv (hunting 0x8 0x04 8) := inv_of_invHolds (by decide)
theorem inv_lastByteDue : Inv { lastByteDue 0x7 with rx := [some 0x5A] } := inv_of_invHolds (by decide)

/-- No parameter, and the most there may be. -/
theorem witness_SendWritesOneValidFrame :
    base.busy = false ∧ (0x08 : Byte) ∈ commandCodes ∧ (0 : BitVec 3).toNat ≤ 4 ∧ (4 : BitVec 3).toNat ≤ 4 := by decide
/-- A reserved command with nparam 0; a good command with nparam 5. -/
theorem witness_IllegalSendIsRefused :
    base.busy = false ∧ ((0x10 : Byte) ∉ commandCodes ∨ 4 < (0 : BitVec 3).toNat) ∧
      ((0x01 : Byte) ∉ commandCodes ∨ 4 < (5 : BitVec 3).toNat) := by decide
theorem witness_NamedCommandsWriteFixedFrames : base.busy = false := rfl
theorem witness_RecvStartsRead : base.busy = false ∧ (0x40 : Byte) ∈ commandCodes := by decide
theorem witness_IllegalRecvIsRefused : base.busy = false ∧ (0x10 : Byte) ∉ commandCodes := by decide
theorem witness_ReservedCodesAreRefused : base.busy = false := rfl
theorem witness_BusyEngineIgnoresNonAccessors : (hunting 0x2 0x08 5).busy = true := rfl

/-- A silent poll, with one poll left. -/
theorem witness_EmptyPollChangesOnlyBudget :
    let s := { hunting 0x7 0x04 1 with rx := [none] }
    s.inputs = [] ∧ s.pstate ≠ .idle ∧ s.budget ≠ 0 ∧ s.answer 0 = none := by decide
theorem witness_StrayByteIsDropped :
    let s := { hunting 0x7 0x04 1 with rx := [some 0x41] }
    s.inputs = [] ∧ s.pstate = .hunt ∧ s.budget ≠ 0 ∧ s.answer 0 = some 0x41 ∧ (0x41 : Byte) ≠ 0x40 := by decide
theorem witness_HeadByteBeginsCandidate :
    let s := { hunting 0x7 0x04 1 with rx := [some 0x40] }
    Memory.wf s.buf = true ∧ s.inputs = [] ∧ s.pstate = .hunt ∧ s.budget ≠ 0 ∧ s.answer 0 = some 0x40 := by decide

/-- A read that waits for its length byte `b`. -/
def lengthDue (b : Byte) : State :=
  { hunting 0x7 0x04 7 with pstate := .len, idx := 1, sum := 0x40, buf := [(0, 0x40)], rx := [some b] }

/-- Both clauses at their bounds: 0 and 6 fail, 1 and 5 are taken. -/
theorem witness_LengthByteIsTakenOrFails :
    (∀ b ∈ [(0 : Byte), 1, 5, 6], Memory.wf (lengthDue b).buf = true ∧ (lengthDue b).inputs = [] ∧
      (lengthDue b).pstate = .len ∧ (lengthDue b).budget ≠ 0 ∧ (lengthDue b).answer 0 = some b) ∧
    (∀ b ∈ [(0 : Byte), 6], b.toNat < 1 ∨ 5 < b.toNat) ∧ ∀ b ∈ [(1 : Byte), 5], 1 ≤ b.toNat ∧ b.toNat ≤ 5 := by decide

/-- With the shortest and the longest frame ahead. -/
theorem witness_CommandByteIsStored :
    ∀ l ∈ [(1 : Byte), 5],
      let s := { lengthDue 0x04 with pstate := .cmd, idx := 2, len := l }
      Memory.wf s.buf = true ∧ s.inputs = [] ∧ s.pstate = .cmd ∧ s.budget ≠ 0 ∧ s.answer 0 = some 0x04 := by decide
/-- The first and the last data byte of the longest frame. -/
theorem witness_DataByteIsStored :
    ∀ i ∈ [(3 : BitVec 4), 6],
      let s := { lengthDue 0x40 with pstate := .data, idx := i, len := 5 }
      Memory.wf s.buf = true ∧ s.inputs = [] ∧ s.pstate = .data ∧ s.idx.toNat < 8 ∧ s.budget ≠ 0 ∧
        s.answer 0 = some 0x40 := by decide
/-- The good frame of V-PA13 with its last byte due in READPM. -/
def shortFrameDue : State :=
  { lastByteDue 0x7 with
    idx := 5, len := 3, sum := 0x6A, buf := [(0, 0x40), (1, 0x03), (2, 0x04), (4, 0x23)], rx := [some 0x96] }

/-- One state for each clause, with the cause the step comes to: CHECKSUM, COMMAND, the shape LENGTH, the two commits. -/
theorem witness_ChecksumByteEndsRead :
    ∀ x ∈ [({ lastByteDue 0x7 with rx := [some 0xC4] }, (0xC4 : Byte), Cause.checksum),
        ({ lastByteDue 0x2 with expect := 0x08, rx := [some 0x5A] }, 0x5A, .command),
        (shortFrameDue, 0x96, .length),
        ({ lastByteDue 0x2 with rx := [some 0x5A] }, 0x5A, .none),
        ({ lastByteDue 0x7 with rx := [some 0x5A] }, 0x5A, .none)],
      Memory.wf x.1.buf = true ∧ x.1.inputs = [] ∧ x.1.pstate = .csum ∧ x.1.idx.toNat < 8 ∧ x.1.budget ≠ 0 ∧
        x.1.answer 0 = some x.2.1 ∧ (got (step x.1)).map (·.resCause) = some x.2.2 := by decide
/-- In the hunt, and after a head. -/
theorem witness_ExhaustedBudgetFails :
    ∀ s ∈ [hunting 0x7 0x04 0, { lengthDue 5 with budget := 0 }],
      s.inputs = [] ∧ s.pstate ≠ .idle ∧ s.budget = 0 := by decide
theorem witness_ParserFollowsTransitionTable :
    frameDue.inputs = [] ∧ ∃ t : State, step frameDue = .next t ∧ t.pstate = .hunt := ⟨rfl, _, rfl, rfl⟩

theorem witness_ByteMachineComputesClosedForm :
    ∀ s ∈ [hunting 0x2 0x08 5, hunting 0x7 0x04 8, hunting 0x8 0x04 8], s.inputs = [] ∧ s.pstate = .hunt := by decide
/-- A gap before the first poll, and after the last. -/
theorem witness_GapCostsOnePollOnly : 0 ≤ 8 ∧ 8 ≤ 8 := by decide

/-- The nominal answers with one more waiting behind them, and READ_BUDGET = 8. -/
def nominal : State := offered [0x40, 0x05, 0x04, 0x00, 0x23, 0x00, 0x3A, 0x5A, 0x40]

theorem witness_ReadpmStoresMeasurement :
    Memory.wf nominal.buf = true ∧ nominal.busy = false ∧ nominal.pstate = .idle ∧ nominal.inputs = [] ∧
      8 ≤ nominal.readBudget.toNat ∧
      nominal.rx = (frameBytes 0x04 [0x00, 0x23, 0x00, 0x3A] (-(0x49 + 0x00 + 0x23 + 0x00 + 0x3A))).map some ++
        [some 0x40] := by decide
theorem witness_ReadpmWritesThenHunts : base.busy = false ∧ base.inputs = [] ∧ base.pstate = .idle := by decide
theorem witness_InitWritesThreeFramesThenHunts : base.busy = false ∧ base.inputs = [] ∧ base.pstate = .idle := by
  decide
theorem witness_InitStoresMeasurement :
    Memory.wf nominal.buf = true ∧ nominal.busy = false ∧ nominal.pstate = .idle ∧ nominal.inputs = [] ∧
      8 ≤ nominal.readBudget.toNat ∧
      nominal.rx = (frameBytes 0x04 [0x00, 0x23, 0x00, 0x3A] (-(0x49 + 0x00 + 0x23 + 0x00 + 0x3A))).map some ++
        [some 0x40] := by decide
/-- No data with a budget of 4, and four data bytes with a budget of 8. -/
theorem witness_RecvReturnsPayload :
    ∀ p ∈ [((4 : Half), ([] : List Byte)), (8, [0x00, 0x23, 0x00, 0x3A])],
      let s := offered (frameBytes 0x04 p.2 (csum8 ([0x40, BitVec.ofNat 8 (1 + p.2.length), 0x04] ++ p.2)))
      Memory.wf s.buf = true ∧ s.busy = false ∧ s.inputs = [] ∧ (0x04 : Byte) ∈ commandCodes ∧ p.2.length ≤ 4 ∧
        p.2.length + 4 ≤ p.1.toNat ∧
        s.rx = (frameBytes 0x04 p.2 (csum8 ([0x40, BitVec.ofNat 8 (1 + p.2.length), 0x04] ++ p.2))).map some ++ [] := by
  decide
theorem witness_ReadEndsWithinBudget :
    Inv (hunting 0x7 0x04 8) ∧ (hunting 0x7 0x04 8).inputs = [] ∧ (hunting 0x7 0x04 8).pstate ≠ .idle :=
  ⟨inv_hunting_readpm, by decide, by decide⟩
/-- Before the write of READPM, and in its read. -/
theorem witness_EveryOperationEnds :
    (Inv frameDue ∧ frameDue.inputs = [] ∧ frameDue.busy = true) ∧
      Inv (hunting 0x7 0x04 8) ∧ (hunting 0x7 0x04 8).inputs = [] ∧ (hunting 0x7 0x04 8).busy = true :=
  ⟨⟨inv_frameDue, rfl, rfl⟩, inv_hunting_readpm, rfl, rfl⟩
theorem witness_AcceptedCandidateIsValidFrame :
    Inv { lastByteDue 0x7 with rx := [some 0x5A] } ∧ ∃ t : State,
      step { lastByteDue 0x7 with rx := [some 0x5A] } = .next t ∧ t.resOk = true :=
  ⟨inv_lastByteDue, _, rfl, rfl⟩

theorem witness_EveryStepKeepsInvariant :
    Inv frameDue ∧ ∃ t : State, step frameDue = .next t ∧ t.pstate = .hunt := ⟨inv_frameDue, _, rfl, rfl⟩
theorem witness_InvariantStatesNeverFault : Inv { lastByteDue 0x7 with rx := [some 0x5A] } := inv_lastByteDue
theorem witness_OnlyForeignTxBytesAreRefused :
    step { base with inputs := [.link .tx [0x40, 0x01, 0x01, 0xBF]] } = .refused .neverTransmitted := rfl
theorem witness_ReadingsChangeOnlyOnSuccess :
    Inv { lastByteDue 0x7 with rx := [some 0x5A] } ∧ resetNext { lastByteDue 0x7 with rx := [some 0x5A] } = false ∧
      ∃ t : State, step { lastByteDue 0x7 with rx := [some 0x5A] } = .next t ∧ t.pm25 ≠ (lastByteDue 0x7).pm25 :=
  ⟨inv_lastByteDue, rfl, _, rfl, by decide⟩
theorem witness_StatusChangesOnlyWhenReadEnds :
    resetNext { lastByteDue 0x2 with rx := [some 0x5A] } = false ∧
      ∃ t : State, step { lastByteDue 0x2 with rx := [some 0x5A] } = .next t ∧ t.status ≠ (lastByteDue 0x2).status :=
  ⟨rfl, _, rfl, by decide⟩
theorem witness_ModeChangesOnlyWithCommandFrame :
    resetNext { base with inputs := [.present 0x3] } = false ∧
      ∃ t : State, step { base with inputs := [.present 0x3] } = .next t ∧ t.mode ≠ base.mode := ⟨rfl, _, rfl, by decide⟩
/-- A step that writes, and one in a read. -/
theorem witness_TxGrowsByOneValidFrame :
    (∃ t : State, step frameDue = .next t ∧ t.tx.length = 4) ∧
      Inv { lastByteDue 0x7 with rx := [some 0x5A] } ∧ (lastByteDue 0x7).pstate ≠ .idle ∧
      ∃ t : State, step { lastByteDue 0x7 with rx := [some 0x5A] } = .next t :=
  ⟨⟨_, rfl, by decide⟩, inv_lastByteDue, by decide, _, rfl⟩
theorem witness_PollsOnlyInsideReadAndCostBudget :
    ∃ t : State, step (lengthDue 5) = .next t ∧ t.polls ≠ (lengthDue 5).polls := ⟨_, rfl, by decide⟩
theorem witness_ModeGatesNothing :
    frameDue.inputs.head? ≠ some (.readReg .cr3) ∧ ∃ t : State, step frameDue = .next t ∧ t.pstate = .hunt :=
  ⟨by decide, _, rfl, rfl⟩

theorem witness_FixedFramesAreWritten : base.busy = false := rfl
/-- Each length of frame with its right checksum byte. -/
theorem witness_BuiltFramesAreWritten :
    base.busy = false ∧ (0x08 : Byte) ∈ commandCodes ∧ (0x41 + 0x08 + 0xB7 : Byte) = 0 ∧ (0x42 + 0x08 + 0x64 + 0x52 : Byte) = 0 ∧
      (0x43 + 0x08 + 0x64 + 0x01 + 0x50 : Byte) = 0 ∧ (0x44 + 0x08 + 0x64 + 0x01 + 0x02 + 0x4D : Byte) = 0 ∧
      (0x45 + 0x08 + 0xFF + 0xFF + 0xFF + 0xFF + 0xB7 : Byte) = 0 := by decide
/-- A reserved command whose bytes sum to 0; a good command whose bytes do not. -/
theorem witness_ForeignTxFramesAreRefused :
    (encode (.frameLen1 .tx 0x03 0xBC) = .frame .tx [0x40, 0x01, 0x03, 0xBC] ∧
      ([0x40, 0x01, 0x03, 0xBC] : List Byte)[2]? = some 0x03 ∧ (0x03 : Byte) ∉ commandCodes) ∧
    encode (.frameLen1 .tx 0x01 0xBF) = .frame .tx [0x40, 0x01, 0x01, 0xBF] ∧
      ([0x40, 0x01, 0x01, 0xBF] : List Byte)[2]? = some 0x01 ∧ sum8 [0x40, 0x01, 0x01, 0xBF] ≠ 0 := by decide
theorem witness_ReceivedFrameWaitsOutsideRead : base.pstate = .idle := rfl
/-- A frame row in the hunt; a stray byte as the next input, at the checksum byte of a read with an answer already waiting. -/
theorem witness_ReceptionIsPolling :
    (Inv (hunting 0x2 0x08 5) ∧
      encode (.frameLen2 .rx 0x08 0x64 0x52) = .frame .rx [0x40, 0x02, 0x08, 0x64, 0x52]) ∧
    Inv { lastByteDue 0x7 with rx := [some 0x5A], inputs := [.link .rx [0x13]] } :=
  ⟨⟨inv_hunting_recv, by decide⟩, inv_of_invHolds (by decide)⟩
/-- No data byte within a budget of more than enough, and four within a budget of just eight. -/
theorem witness_ReceivedFrameIsJudged :
    (Inv (hunting 0x2 0x08 5) ∧ (hunting 0x2 0x08 5).pstate = .hunt ∧ (hunting 0x2 0x08 5).rx = [] ∧
      0 + 4 ≤ (hunting 0x2 0x08 5).budget.toNat ∧ encode (.frameLen1 .rx 0x08 0xB7) = .frame .rx (frameBytes 0x08 [] 0xB7)) ∧
    Inv (hunting 0x7 0x04 8) ∧ (hunting 0x7 0x04 8).pstate = .hunt ∧ (hunting 0x7 0x04 8).rx = [] ∧
      4 + 4 ≤ (hunting 0x7 0x04 8).budget.toNat ∧
      encode (.frameRspMeasurement 0x00 0x23 0x00 0x3A 0xC4) = .frame .rx (frameBytes 0x04 [0x00, 0x23, 0x00, 0x3A] 0xC4) :=
  ⟨⟨inv_hunting_recv, by decide, by decide, by decide, by decide⟩,
    inv_hunting_readpm, by decide, by decide, by decide, by decide⟩
theorem witness_MeasurementFrameIsAccepted :
    ∀ op ∈ [(0x7 : BitVec 4), 0x8],
      let s := hunting op 0x04 8
      Memory.wf s.buf = true ∧ s.pstate = .hunt ∧ (s.curOp = 0x7 ∨ s.curOp = 0x8) ∧ s.expect = 0x04 ∧ s.rx = [] ∧
        8 ≤ s.budget.toNat ∧ (0x49 + 0x00 + 0x23 + 0x00 + 0x3A + 0x5A : Byte) = 0 := by decide

theorem witness_StepRunsDecodedInstruction :
    ({ base with inputs := [.present 0x7, .pass] } : State).inputs = .present 0x7 :: [.pass] ∧
    ({ base with inputs := [.link .tx [0x40, 0x01, 0x01, 0xBE]] } : State).inputs =
      .link .tx [0x40, 0x01, 0x01, 0xBE] :: [] ∧
    decodeFrame .tx [0x40, 0x01, 0x01, 0xBE] = .ok .frameCmdStart ∧
    ({ base with inputs := [.link .rx [0x13]] } : State).inputs = .link .rx [0x13] :: [] ∧
    decodeFrame .rx [0x13] = .error .frameSize ∧
    ({ base with inputs := [.link .tx [0x13]] } : State).inputs = .link .tx [0x13] :: [] ∧
    decodeFrame .tx [0x13] = .error .frameSize := ⟨rfl, rfl, rfl, rfl, rfl, rfl, rfl⟩
/-- The same statement's `pass` and `awaitDone`: before the write of READPM and, for the wait, between operations too. -/
theorem witness_StepRunsDecodedInstruction_waits :
    ({ frameDue with inputs := [.pass] } : State).inputs = .pass :: [] ∧
    ({ frameDue with inputs := [.awaitDone] } : State).inputs = .awaitDone :: [] ∧ frameDue.busy = true ∧
    ({ base with inputs := [.awaitDone] } : State).inputs = .awaitDone :: [] ∧ base.busy = false ∧
    (∃ t : State, step (alone frameDue) = .next t ∧ t.pstate = .hunt) ∧
    step (alone { lastByteDue 0x7 with idx := 8, rx := [some 0x5A] }) = .fault .bufIndex :=
  ⟨rfl, rfl, rfl, rfl, rfl, ⟨_, rfl, rfl⟩, rfl⟩
theorem witness_PlacedInstructionRunsNext :
    decodeTableWord 64 0x7 = some .readpm ∧ decodeTableWord 32 0x400101BE = some .frameCmdStart := by decide
theorem witness_DecodeOfEncodeIsSame : (Instr.frameLen2 .tx 0x08 0x64 0x52).wellFormed = true := by decide
theorem witness_EncodeOfDecodedFrameIsSame :
    decodeFrame .rx [0x40, 0x01, 0x03, 0xFF] = .ok (.frameLen1 .rx 0x03 0xFF) := rfl
/-- The shortest and the longest frame. -/
theorem witness_EveryReceivedFrameDecodes :
    ∀ l ∈ [([0x40, 0x01, 0x03, 0xFF] : List Byte), [0x40, 0x05, 0x04, 0x40, 0x40, 0x40, 0x40, 0x40]],
      4 ≤ l.length ∧ l.length ≤ 8 ∧ l[0]? = some 0x40 ∧ l[1]? = some (BitVec.ofNat 8 (l.length - 3)) := by decide
/-- One pair of different words for each clause. -/
theorem witness_UnusedFieldsAreIgnored :
    (let w : OpWord := 0x7; let v : OpWord := 0xFFFFFFFFFFFFFFF7
      w.extractLsb' 0 4 = v.extractLsb' 0 4 ∧ w.extractLsb' 0 4 ≠ 0x1 ∧ w.extractLsb' 0 4 ≠ 0x2) ∧
    (let w : OpWord := 0x641081; let v : OpWord := 0xFFFF000000649081
      w.extractLsb' 0 4 = v.extractLsb' 0 4 ∧ w.extractLsb' 0 4 = 0x1 ∧ w.extractLsb' 4 11 = v.extractLsb' 4 11 ∧
        w.extractLsb' 16 32 = v.extractLsb' 16 32) ∧
    (let w : OpWord := 0x0010000000000082; let v : OpWord := 0x0010FFFFFFFFF082
      w.extractLsb' 0 4 = v.extractLsb' 0 4 ∧ w.extractLsb' 0 4 = 0x2 ∧ w.extractLsb' 4 8 = v.extractLsb' 4 8 ∧
        w.extractLsb' 48 16 = v.extractLsb' 48 16) := by decide
theorem witness_ResetInputAbortsEverything :
    ({ hunting 0x7 0x04 8 with inputs := [.reset] } : State).inputs = .reset :: [] := rfl
theorem witness_RegisterReadReturnsRegister :
    ({ hunting 0x7 0x04 8 with inputs := [.readReg .cr4] } : State).inputs = .readReg .cr4 :: [] := rfl
theorem witness_BuiltFrameIsValid :
    (0x08 : Byte) ∈ commandCodes ∧ ([] : List Byte).length ≤ 4 ∧ ([0xFF, 0xFF, 0xFF, 0xFF] : List Byte).length ≤ 4 := by
  decide
/-- The head's lowest bit and the checksum's highest. -/
theorem witness_SingleBitFlipIsDetected :
    let f : List Byte := [0x40, 0x01, 0x01, 0xBE]
    validFrame f = true ∧ f[0]? = some 0x40 ∧ f[3]? = some 0xBE ∧ 0 < 8 ∧ 7 < 8 := by decide

end Sys2Proof.Tests
end

section
/-!
The laws of the invariant (spec/10_state.md R13 to R21): what it says in each parser state, which registers it does not
speak of, and which updates of the state keep it.
-/

namespace Sys2Proof.Machine

/-! ### The parser's registers -/

/-- A legal length byte (R126). -/
theorem lenOk_iff (b : Byte) : lenOk b = true ↔ 1 ≤ b.toNat ∧ b.toNat ≤ 5 := by
  simp [lenOk, Config.lenMin, Config.lenMax, BitVec.lt_def, Nat.one_le_iff_ne_zero]

theorem parserInv_of_idle {s : State} (h : s.pstate = .idle) : ParserInv s := by
  simp [ParserInv, h]

theorem parserInv_hunt_iff {s : State} (h : s.pstate = .hunt) : ParserInv s ↔ s.idx = 0 ∧ s.sum = 0 ∧ s.len = 0 := by
  simp [ParserInv, h]

theorem parserInv_len_iff {s : State} (h : s.pstate = .len) : ParserInv s ↔ s.idx = 1 ∧ Candidate s := by
  simp [ParserInv, h]

theorem parserInv_cmd_iff {s : State} (h : s.pstate = .cmd) :
    ParserInv s ↔ s.idx = 2 ∧ LengthTaken s ∧ Candidate s := by
  simp [ParserInv, h]

theorem parserInv_data_iff {s : State} (h : s.pstate = .data) :
    ParserInv s ↔ 3 ≤ s.idx.toNat ∧ s.idx.toNat ≤ s.len.toNat + 1 ∧ LengthTaken s ∧ Candidate s := by
  simp [ParserInv, h]

theorem parserInv_csum_iff {s : State} (h : s.pstate = .csum) :
    ParserInv s ↔ s.idx.toNat = s.len.toNat + 2 ∧ LengthTaken s ∧ Candidate s := by
  simp [ParserInv, h]

/-- Behind the command byte `idx` decides between `P_DATA` and `P_CSUM` (R127, R128). -/
theorem parserInv_of_body {s : State} (hp : s.pstate = if s.idx.toNat = s.len.toNat + 2 then .csum else .data)
    (hlo : 3 ≤ s.idx.toNat) (hhi : s.idx.toNat ≤ s.len.toNat + 2) (hlen : LengthTaken s) (hcand : Candidate s) :
    ParserInv s := by
  split at hp
  · next hlast => exact (parserInv_csum_iff hp).2 ⟨hlast, hlen, hcand⟩
  · exact (parserInv_data_iff hp).2 ⟨hlo, by omega, hlen, hcand⟩

/-- `bufAt_put` for a state in which other registers changed with the buffer. -/
theorem bufAt_of_put {s t : State} {i : Nat} {b : Byte} (hw : Memory.wf s.buf = true)
    (hbuf : t.buf = cellPut s.buf i b) (x : Nat) : t.bufAt x = if x = i then b else s.bufAt x := by
  rw [State.bufAt, hbuf]
  exact bufAt_put hw i b x

/-- The head byte in `buf[0]` is a candidate (R124). -/
theorem candidate_of_head {s t : State} (hw : Memory.wf s.buf = true)
    (hbuf : t.buf = cellPut s.buf 0 Config.head) (hidx : t.idx = 1) (hsum : t.sum = Config.head) : Candidate t := by
  have h0 : t.bufAt 0 = Config.head := bufAt_of_put hw hbuf 0
  refine ⟨h0, ?_⟩
  simp [taken, hidx, h0, hsum]

/-- A byte stored at `idx` and added to `sum` makes the candidate one byte longer (R126 to R128). -/
theorem Candidate.snoc {s t : State} {b : Byte} (h : Candidate s) (hw : Memory.wf s.buf = true)
    (hpos : 0 < s.idx.toNat) (hbuf : t.buf = cellPut s.buf s.idx.toNat b) (hidx : t.idx.toNat = s.idx.toNat + 1)
    (hsum : t.sum = s.sum + b) : Candidate t := by
  obtain ⟨hhead, hs⟩ := h
  have hread := bufAt_of_put hw hbuf
  have htaken : taken t = taken s ++ [b] := by
    rw [taken, hidx, List.range_succ, List.map_append, List.map_singleton, hread, if_pos rfl]
    congr 1
    refine List.map_congr_left fun x hx => ?_
    rw [hread, if_neg (Nat.ne_of_lt (List.mem_range.1 hx))]
  refine ⟨?_, ?_⟩
  · rw [hread, if_neg (Nat.ne_of_lt hpos), hhead]
  · rw [hsum, hs, htaken]
    simp

/-- A byte stored behind offset 1 leaves the length byte as it was taken (R127, R128). -/
theorem LengthTaken.put {s t : State} {i : Nat} {b : Byte} (h : LengthTaken s) (hw : Memory.wf s.buf = true)
    (hi : 1 < i) (hbuf : t.buf = cellPut s.buf i b) (hlen : t.len = s.len) : LengthTaken t := by
  obtain ⟨hok, hat⟩ := h
  refine ⟨by rw [hlen, hok], ?_⟩
  rw [bufAt_of_put hw hbuf, if_neg (Nat.ne_of_lt hi), hat, hlen]

/-! ### The payload -/

theorem NoPayload.padded {s : State} (h : NoPayload s) : PayloadPadded s := by
  obtain ⟨hn, hd⟩ := h
  simp [PayloadPadded, hn, hd]

/-- The payload of a frame of legal length fills its `len − 1` registers and is zero above (R136). -/
theorem payloadPadded_commitRecv {s : State} (h : lenOk s.len = true) : PayloadPadded (commitRecv s) := by
  obtain ⟨hlo, hhi⟩ := (lenOk_iff _).1 h
  have hn : (commitRecv s).resN.toNat = s.len.toNat - 1 := by
    rw [commitRecv_resN, BitVec.toNat_setWidth, BitVec.toNat_sub_of_le (by simpa [BitVec.le_def] using hlo)]
    exact Nat.mod_eq_of_lt (by simp; omega)
  simp only [PayloadPadded, hn, commitRecv_resData, payload]
  refine ⟨by omega, ?_, ?_, ?_, ?_⟩ <;> intro hle <;> exact if_neg (by omega)

theorem payloadPadded_commitMeasurement (s : State) : PayloadPadded (commitMeasurement s) := by
  simp [PayloadPadded]

/-! ### Shapes of states that meet the invariant -/

/-- The invariant does not speak of the readings, `mode`, `budget`, nor of what the model keeps beside the registers. -/
theorem Inv.of_other_registers {s : State} (h : Inv s) (pm25 pm10 : Half) (mode : Mode) (budget : Half) (tx : List Byte)
    (rx : List (Option Byte)) (polls : Nat) (readBudget rdata : Half) (inputs : List Event) :
    Inv { s with
      pm25 := pm25, pm10 := pm10, mode := mode, budget := budget, tx := tx, rx := rx, polls := polls
      readBudget := readBudget, rdata := rdata, inputs := inputs } :=
  ⟨h.bufWf, h.statusLegal, h.okHasNoCause, h.failureHasCause, h.idleParser, h.resultsCleared, h.payload, h.writeDue,
    h.readOwner, h.parser⟩

/-- Between operations only the buffer, `status` and the result registers count. -/
theorem inv_of_ended {s : State} (hbusy : s.busy = false) (hp : s.pstate = .idle) (hw : Memory.wf s.buf = true)
    (hstatus : s.status = Config.statusOk ∨ s.status = Config.statusErr) (hok : s.resOk = true → s.resCause = .none)
    (hfail : s.curOp ≠ 0 → s.resOk = false → s.resCause ≠ .none) (hpay : PayloadPadded s) : Inv s where
  bufWf := hw
  statusLegal := hstatus
  okHasNoCause := hok
  failureHasCause _ := hfail
  idleParser _ := hp
  resultsCleared h := by simp [hbusy] at h
  payload := hpay
  writeDue h := by simp [hbusy] at h
  readOwner h := absurd hp h
  parser := parserInv_of_idle hp

/-- While an operation runs its result registers are clear, and it is in its writes or in a read. -/
theorem inv_of_running {s : State} (hbusy : s.busy = true) (hw : Memory.wf s.buf = true)
    (hstatus : s.status = Config.statusOk ∨ s.status = Config.statusErr)
    (hclear : s.resOk = false ∧ s.resCause = .none ∧ NoPayload s) (hwrite : s.pstate = .idle → WriteDue s)
    (hread : s.pstate ≠ .idle → ReadOwner s ∧ ParserInv s) : Inv s where
  bufWf := hw
  statusLegal := hstatus
  okHasNoCause _ := have ⟨_, hcause, _⟩ := hclear; hcause
  failureHasCause h := by simp [hbusy] at h
  idleParser h := by simp [hbusy] at h
  resultsCleared _ := hclear
  payload := have ⟨_, _, hno⟩ := hclear; hno.padded
  writeDue _ := hwrite
  readOwner hp := (hread hp).1
  parser := by
    by_cases hp : s.pstate = .idle
    · exact parserInv_of_idle hp
    · exact (hread hp).2

/-- A read runs inside an operation only (R151, R180). -/
theorem Inv.busy_of_reading {s : State} (h : Inv s) (hp : s.pstate ≠ .idle) : s.busy = true := by
  by_contra hb
  exact hp (h.idleParser (by simpa using hb))

theorem inv_reset : Inv State.reset :=
  inv_of_ended rfl rfl reset_buf_wf (.inr rfl) (by simp [State.reset]) (by simp [State.reset])
    (NoPayload.padded ⟨rfl, rfl⟩)

/-! ### The ends of an operation -/

theorem inv_failCommit {s : State} {c : Cause} (hw : Memory.wf s.buf = true) (hc : c ≠ .none) :
    Inv (failCommit c s) :=
  inv_of_ended rfl rfl hw (.inr rfl) (by simp) (by simpa using fun _ => hc) (NoPayload.padded ⟨rfl, rfl⟩)

theorem inv_commitRecv {s : State} (hw : Memory.wf s.buf = true) (hlen : lenOk s.len = true) : Inv (commitRecv s) :=
  inv_of_ended rfl rfl hw (.inl rfl) (by simp) (by simp) (payloadPadded_commitRecv hlen)

theorem inv_commitMeasurement {s : State} (hw : Memory.wf s.buf = true) : Inv (commitMeasurement s) :=
  inv_of_ended rfl rfl hw (.inl rfl) (by simp) (by simp) (payloadPadded_commitMeasurement s)

/-- Whatever the checks at the end of a frame come to keeps the invariant (R130). -/
theorem inv_endOfFrame {s : State} (b : Byte) (hw : Memory.wf s.buf = true) (hlen : lenOk s.len = true) :
    Inv (endOfFrame b s) := by
  obtain ⟨-, he⟩ | ⟨-, -, he⟩ | ⟨-, -, -, -, he⟩ | ⟨-, -, -, he⟩ | ⟨-, -, -, -, he⟩ := endOfFrame_cases b s <;> rw [he]
  · exact inv_failCommit hw (by simp)
  · exact inv_failCommit hw (by simp)
  · exact inv_failCommit hw (by simp)
  · exact inv_commitRecv hw hlen
  · exact inv_commitMeasurement hw

/-! ### Polls -/

/-- A read that goes on: only the parser's registers change, and they are as R21 says. -/
theorem Inv.parser_moved {s : State} (h : Inv s) (hs : s.pstate ≠ .idle) {p : PState} {i : BitVec 4} {l x : Byte}
    {m : Memory} (hm : Memory.wf m = true)
    (hpar : ParserInv { s with pstate := p, idx := i, len := l, sum := x, buf := m }) (hp : p ≠ .idle) :
    Inv { s with pstate := p, idx := i, len := l, sum := x, buf := m } :=
  have hbusy := h.busy_of_reading hs
  inv_of_running hbusy hm h.statusLegal (h.resultsCleared hbusy) (fun hi => absurd hi hp)
    fun _ => ⟨h.readOwner hs, hpar⟩

/-- A byte taken in a read keeps the invariant (R124 to R130). -/
theorem takeByte_inv {b : Byte} {s t : State} (h : Inv s) (ht : takeByte b s = .ok t) : Inv t := by
  have hw := h.bufWf
  have hput {i : Nat} (hi : i < 8) : Memory.wf (cellPut s.buf i b) = true := cellPut_wf hw hi b
  rcases takeByte_ok ht with ⟨-, rfl⟩ | ⟨-, -, rfl⟩ | ⟨hp, rfl, rfl⟩ | ⟨-, -, rfl⟩ | ⟨hp, hb, rfl⟩ | ⟨hp, rfl⟩ |
    ⟨hp, hi, rfl⟩ | ⟨hp, hi, rfl⟩
  -- no read; a stray byte
  · exact h
  · exact h
  -- the head
  · refine h.parser_moved (by simp [hp]) (hput (by omega)) ?_ (by simp)
    exact (parserInv_len_iff rfl).2 ⟨rfl, candidate_of_head hw rfl rfl rfl⟩
  -- the length byte, illegal and legal
  · exact inv_failCommit hw (by simp)
  · obtain ⟨hidx, hcand⟩ := (parserInv_len_iff hp).1 h.parser
    refine h.parser_moved (by simp [hp]) (hput (by omega)) ?_ (by simp)
    refine (parserInv_cmd_iff rfl).2 ⟨rfl, ⟨hb, (bufAt_of_put hw rfl 1).trans (if_pos rfl)⟩, ?_⟩
    exact hcand.snoc hw (by simp [hidx]) (by simp [hidx]) (by simp [hidx]) rfl
  -- the command byte
  · obtain ⟨hidx, hlen, hcand⟩ := (parserInv_cmd_iff hp).1 h.parser
    obtain ⟨hlo, -⟩ := (lenOk_iff _).1 hlen.1
    have hone : s.len.toNat = 1 ↔ s.len = 1 := BitVec.toNat_inj (y := 1)
    refine h.parser_moved (by simp [hp]) (hput (by omega)) ?_ (by split <;> simp)
    refine parserInv_of_body (by simp [hone]) (by simp) (by simp; omega) (hlen.put hw (by omega) rfl rfl) ?_
    exact hcand.snoc hw (by simp [hidx]) (by simp [hidx]) (by simp [hidx]) rfl
  -- a data byte
  · obtain ⟨hlo, hhi, hlen, hcand⟩ := (parserInv_data_iff hp).1 h.parser
    obtain ⟨-, hmax⟩ := (lenOk_iff _).1 hlen.1
    have hnext : (s.idx + 1).toNat = s.idx.toNat + 1 := BitVec.toNat_add_of_lt (by simp; omega)
    refine h.parser_moved (by simp [hp]) (hput hi) ?_ (by split <;> simp)
    refine parserInv_of_body rfl (by simp only [hnext]; omega) (by simp only [hnext]; omega)
      (hlen.put hw (by omega) rfl rfl) ?_
    exact hcand.snoc hw (by omega) rfl hnext rfl
  -- the checksum byte
  · obtain ⟨-, hlen, -⟩ := (parserInv_csum_iff hp).1 h.parser
    exact inv_endOfFrame b (hput hi) hlen.1

theorem chargePoll_inv {s : State} (h : Inv s) : Inv (chargePoll s) :=
  h.of_other_registers _ _ _ (s.budget - 1) _ (s.rx.drop 1) (s.polls + 1) _ _ _

/-- A poll step keeps the invariant (R122, R123, R131). -/
theorem pollStep_inv {s t : State} (h : Inv s) (ht : pollStep s = .ok t) : Inv t := by
  rcases pollStep_ok ht with ⟨-, rfl⟩ | ⟨-, -, rfl⟩ | ⟨-, b, -, hb⟩
  · exact inv_failCommit h.bufWf (by split <;> simp)
  · exact chargePoll_inv h
  · exact takeByte_inv (chargePoll_inv h) hb

/-- Bytes received keep the invariant, whether a read polls them or not (R43). -/
theorem receiveBytes_inv {bytes : List Byte} {s t : State} (h : Inv s) (ht : receiveBytes bytes s = .ok t) : Inv t :=
  pollMany_keeps (P := Inv) (fun _ _ _ hs hq => pollStep_inv hs hq) _ _ t
    (h.of_other_registers _ _ _ _ _ (s.rx ++ bytes.map some) _ _ _ _) ht

/-! ### The engine's own step -/

/-- The start of a read keeps the invariant when the read has an owner (R121, R153). -/
theorem inv_startRead {s : State} {e : Byte} {b : Half} (hbusy : s.busy = true) (hw : Memory.wf s.buf = true)
    (hstatus : s.status = Config.statusOk ∨ s.status = Config.statusErr)
    (hclear : s.resOk = false ∧ s.resCause = .none ∧ NoPayload s) (howner : ReadOwner (startRead e b s)) :
    Inv (startRead e b s) :=
  inv_of_running hbusy hw hstatus hclear (by simp) fun _ => ⟨howner, (parserInv_hunt_iff rfl).2 ⟨rfl, rfl, rfl⟩⟩

/-- A write step keeps the invariant: another write is due, or the read it starts has its owner (R153, R155). -/
theorem writeStep_inv {s t : State} (h : Inv s) (hbusy : s.busy = true) (hp : s.pstate = .idle)
    (ht : writeStep s = .ok t) : Inv t := by
  have hclear := h.resultsCleared hbusy
  rcases writeStep_ok ht with ⟨hop, -, rfl⟩ | ⟨hop, -, rfl⟩ | ⟨hop, -, rfl⟩
  · exact inv_of_running hbusy h.bufWf h.statusLegal hclear (fun _ => .inl ⟨hop, by simp⟩) (absurd hp)
  · exact inv_of_running hbusy h.bufWf h.statusLegal hclear (fun _ => .inl ⟨hop, by simp⟩) (absurd hp)
  · exact inv_startRead hbusy h.bufWf h.statusLegal hclear (.inr ⟨hop, rfl, rfl⟩)

theorem engineStep_inv {s t : State} (h : Inv s) (ht : engineStep s = .next t) : Inv t := by
  rcases engineStep_next ht with ⟨-, hq⟩ | ⟨hp, hbusy, hq⟩ | ⟨-, -, rfl⟩
  · exact pollStep_inv h hq
  · exact writeStep_inv h hbusy hp hq
  · exact h

/-! ### Inputs -/

@[simp] theorem sendFrame_resOk (op : BitVec 4) (c : Byte) (ps : List Byte) (s : State) :
    (sendFrame op c ps s).resOk = true := rfl

/-- The prologue leaves the result registers clear (R150). -/
theorem prologue_cleared (op : BitVec 4) (s : State) :
    (prologue op s).resOk = false ∧ (prologue op s).resCause = .none ∧ NoPayload (prologue op s) :=
  ⟨rfl, rfl, rfl, rfl⟩

theorem setRdata_inv {s : State} (h : Inv s) (v : Half) : Inv (setRdata v s) :=
  h.of_other_registers _ _ _ _ _ _ _ _ v _

theorem dropInput_inv {s : State} (h : Inv s) : Inv (dropInput s) :=
  h.of_other_registers _ _ _ _ _ _ _ _ _ (s.inputs.drop 1)

theorem applyReset_inv (s : State) : Inv (applyReset s) :=
  inv_reset.of_other_registers _ _ _ _ s.tx s.rx s.polls s.readBudget s.rdata s.inputs

/-- Every move of an instruction keeps the invariant. -/
theorem ExecMove.inv {s t : State} (m : ExecMove s t) (h : Inv s) : Inv t := by
  have hw := h.bufWf
  have hstatus := h.statusLegal
  cases m with
  | ignored _ => exact h
  | sent op c ps hb hop hc hn =>
    exact inv_of_ended rfl (h.idleParser hb) hw hstatus (fun _ => rfl) (by simp) (NoPayload.padded ⟨rfl, rfl⟩)
  | refused op hb =>
    exact inv_of_ended rfl (h.idleParser hb) hw hstatus (by simp) (by simp) (NoPayload.padded ⟨rfl, rfl⟩)
  | recvStarted e b hb he => exact inv_startRead rfl hw hstatus (prologue_cleared ..) (.inl ⟨rfl, he⟩)
  | readpmStarted hb =>
    exact inv_of_running rfl hw hstatus (prologue_cleared Config.opReadpm s) (fun _ => .inr ⟨rfl, rfl⟩)
      (absurd (h.idleParser hb))
  | initStarted hb =>
    exact inv_of_running rfl hw hstatus (prologue_cleared Config.opInit s) (fun _ => .inl ⟨rfl, by simp⟩)
      (absurd (h.idleParser hb))
  | accessed v => exact setRdata_inv h v
  | received bytes t hr => exact receiveBytes_inv h hr

/-- Every step keeps the invariant, whatever the next input. -/
theorem step_inv {s t : State} (h : Inv s) (ht : step s = .next t) : Inv t := by
  rcases step_next ht with ⟨-, he⟩ | ⟨-, he⟩ | ⟨-, -, he⟩ | ⟨-, -, rfl⟩ | ⟨-, hm⟩ | ⟨-, hm⟩ | ⟨r, l, -, rfl⟩ | ⟨l, -, rfl⟩
  · exact engineStep_inv h he
  · exact engineStep_inv (dropInput_inv h) he
  · exact engineStep_inv h he
  · exact dropInput_inv h
  · exact hm.inv (dropInput_inv h)
  · exact hm.inv (dropInput_inv h)
  · exact setRdata_inv (dropInput_inv h) _
  · exact applyReset_inv _

/-- Settles O29: the invariant is a step invariant, by the cases of what a step can do. -/
theorem everyStepKeepsInvariant : Obligations.EveryStepKeepsInvariant :=
  fun _ _ h ht => step_inv h ht

end Sys2Proof.Machine
end

section
/-!
What can change the readings and `status`: only the end of a read (spec/10_state.md R11 to R13), by one of its commits.
-/

namespace Sys2Proof.Machine

/-- `pm2_5`, `pm10` and `status` are as they were. -/
structure SameReadings (s t : State) : Prop where
  pm25 : t.pm25 = s.pm25
  pm10 : t.pm10 = s.pm10
  status : t.status = s.status

/-- The commits that end a read begun in `s` (R186, R136, R152), from a state `u` in which the bytes have been taken. -/
inductive ReadEnd (s : State) : State → Prop where
  | failed (c : Cause) (u : State) (hu : SameReadings s u) : ReadEnd s (failCommit c u)
  | received (u : State) (hu : SameReadings s u) : ReadEnd s (commitRecv u)
  | measured (u : State) (hop : s.curOp ≠ Config.opRecv) : ReadEnd s (commitMeasurement u)

/-- What polls do to the readings: nothing, and the operation in progress goes on, or they end the read. -/
def PolledReadings (s t : State) : Prop := (SameReadings s t ∧ t.curOp = s.curOp) ∨ ReadEnd s t

theorem SameReadings.trans {s t u : State} (h : SameReadings s t) (h' : SameReadings t u) : SameReadings s u :=
  ⟨h'.pm25.trans h.pm25, h'.pm10.trans h.pm10, h'.status.trans h.status⟩

namespace ReadEnd

theorem pstate {s t : State} (h : ReadEnd s t) : t.pstate = .idle := by cases h <;> rfl

theorem busy {s t : State} (h : ReadEnd s t) : t.busy = false := by cases h <;> rfl

/-- `status` says how the read ended (R13). -/
theorem status_resOk {s t : State} (h : ReadEnd s t) :
    t.status = Config.statusOk ∧ t.resOk = true ∨ t.status = Config.statusErr ∧ t.resOk = false := by
  cases h with
  | failed => exact .inr ⟨rfl, rfl⟩
  | received => exact .inl ⟨rfl, rfl⟩
  | measured => exact .inl ⟨rfl, rfl⟩

/-- A read that began with the same readings in the same operation ends the same way. -/
theorem of_same {s t u : State} (h : ReadEnd t u) (hr : SameReadings s t) (hop : t.curOp = s.curOp) : ReadEnd s u := by
  cases h with
  | failed c v hv => exact .failed c v (hr.trans hv)
  | received v hv => exact .received v (hr.trans hv)
  | measured v hne => exact .measured v (hop ▸ hne)

/-- A reading changes in the commit of a measurement only (R11, R12, R152). -/
theorem measured_of_changed {s t : State} (h : ReadEnd s t) (hne : t.pm25 ≠ s.pm25 ∨ t.pm10 ≠ s.pm10) :
    s.curOp ≠ Config.opRecv ∧ ∃ u, t = commitMeasurement u := by
  cases h with
  | failed c u hu => exact absurd hu.pm10 (hne.resolve_left (absurd hu.pm25))
  | received u hu => exact absurd hu.pm10 (hne.resolve_left (absurd hu.pm25))
  | measured u hop => exact ⟨hop, u, rfl⟩

end ReadEnd

/-! ### Polls -/

theorem endOfFrame_readEnd {b : Byte} {s u : State} (hr : SameReadings s u) (hop : u.curOp = s.curOp) :
    ReadEnd s (endOfFrame b u) := by
  rcases endOfFrame_cases b u with ⟨-, he⟩ | ⟨-, -, he⟩ | ⟨-, -, -, -, he⟩ | ⟨-, -, -, he⟩ | ⟨-, -, hc, -, he⟩ <;> rw [he]
  · exact .failed _ u hr
  · exact .failed _ u hr
  · exact .failed _ u hr
  · exact .received u hr
  · exact .measured u (hop ▸ hc)

theorem takeByte_readings {b : Byte} {s t : State} (h : takeByte b s = .ok t) : PolledReadings s t := by
  rcases takeByte_ok h with ⟨-, rfl⟩ | ⟨-, -, rfl⟩ | ⟨-, -, rfl⟩ | ⟨-, -, rfl⟩ | ⟨-, -, rfl⟩ | ⟨-, rfl⟩ | ⟨-, -, rfl⟩ |
    ⟨-, -, rfl⟩
  · exact .inl ⟨⟨rfl, rfl, rfl⟩, rfl⟩
  · exact .inl ⟨⟨rfl, rfl, rfl⟩, rfl⟩
  · exact .inl ⟨⟨rfl, rfl, rfl⟩, rfl⟩
  · exact .inr (.failed .length s ⟨rfl, rfl, rfl⟩)
  · exact .inl ⟨⟨rfl, rfl, rfl⟩, rfl⟩
  · exact .inl ⟨⟨rfl, rfl, rfl⟩, rfl⟩
  · exact .inl ⟨⟨rfl, rfl, rfl⟩, rfl⟩
  · exact .inr (endOfFrame_readEnd ⟨rfl, rfl, rfl⟩ rfl)

theorem PolledReadings.of_same {s t u : State} (h : PolledReadings t u) (hr : SameReadings s t)
    (hop : t.curOp = s.curOp) : PolledReadings s u :=
  h.imp (fun ⟨hr', hop'⟩ => ⟨hr.trans hr', hop'.trans hop⟩) fun hend => hend.of_same hr hop

theorem pollStep_readings {s t : State} (h : pollStep s = .ok t) : PolledReadings s t := by
  rcases pollStep_ok h with ⟨-, rfl⟩ | ⟨-, -, rfl⟩ | ⟨-, b, -, hb⟩
  · exact .inr (.failed _ s ⟨rfl, rfl, rfl⟩)
  · exact .inl ⟨⟨rfl, rfl, rfl⟩, rfl⟩
  · exact (takeByte_readings hb).of_same ⟨rfl, rfl, rfl⟩ rfl

/-- A run of polls makes none behind the end of the read, so it ends one read at most. -/
theorem pollMany_readings {n : Nat} {s t : State} (h : pollMany n s = .ok t) : PolledReadings s t := by
  refine pollMany_keeps (P := PolledReadings s) (fun u v hp hu hv => ?_) n s t (.inl ⟨⟨rfl, rfl, rfl⟩, rfl⟩) h
  rcases hu with ⟨hr, hop⟩ | hend
  · exact (pollStep_readings hv).of_same hr hop
  · exact absurd hend.pstate hp

/-- Outside a read nothing is polled (R43). -/
theorem pollMany_idle {n : Nat} {s : State} (h : s.pstate = .idle) : pollMany n s = .ok s := by
  cases n with
  | zero => rfl
  | succ n => exact if_pos h

/-! ### Steps -/

/-- The readings and `status` in any step but a reset: kept, or a read in progress ends. -/
def StepReadings (s t : State) : Prop := SameReadings s t ∨ (s.pstate ≠ .idle ∧ ReadEnd s t)

theorem PolledReadings.step {s t : State} (hp : s.pstate ≠ .idle) (h : PolledReadings s t) : StepReadings s t :=
  h.imp And.left fun hend => ⟨hp, hend⟩

theorem receiveBytes_readings {bytes : List Byte} {s t : State} (h : receiveBytes bytes s = .ok t) :
    StepReadings s t := by
  by_cases hp : s.pstate = .idle
  · cases (pollMany_idle (s := { s with rx := s.rx ++ bytes.map some }) hp).symm.trans h
    exact .inl ⟨rfl, rfl, rfl⟩
  · have hpolled : PolledReadings { s with rx := s.rx ++ bytes.map some } t := pollMany_readings h
    exact (hpolled.of_same (s := s) ⟨rfl, rfl, rfl⟩ rfl).step hp

theorem writeStep_readings {s t : State} (h : writeStep s = .ok t) : SameReadings s t := by
  rcases writeStep_ok h with ⟨-, -, rfl⟩ | ⟨-, -, rfl⟩ | ⟨-, -, rfl⟩
  · exact ⟨rfl, rfl, rfl⟩
  · exact ⟨rfl, rfl, rfl⟩
  · exact ⟨rfl, rfl, rfl⟩

theorem engineStep_readings {s t : State} (h : engineStep s = .next t) : StepReadings s t := by
  rcases engineStep_next h with ⟨hp, hq⟩ | ⟨-, -, hq⟩ | ⟨-, -, rfl⟩
  · exact (pollStep_readings hq).step hp
  · exact .inl (writeStep_readings hq)
  · exact .inl ⟨rfl, rfl, rfl⟩

theorem ExecMove.readings {s t : State} (m : ExecMove s t) : StepReadings s t := by
  cases m with
  | received bytes t h => exact receiveBytes_readings h
  | _ => exact .inl ⟨rfl, rfl, rfl⟩

theorem StepReadings.of_dropInput {s t : State} (h : StepReadings (dropInput s) t) : StepReadings s t :=
  Or.imp (fun hr => .trans (t := dropInput s) ⟨rfl, rfl, rfl⟩ hr)
    (fun ⟨hp, hend⟩ => ⟨hp, hend.of_same ⟨rfl, rfl, rfl⟩ rfl⟩) h

/-- What a step that is no reset does to the readings and `status` (R11 to R13). -/
theorem step_readings {s t : State} (hreset : resetNext s = false) (h : step s = .next t) : StepReadings s t := by
  rcases step_next h with ⟨-, he⟩ | ⟨-, he⟩ | ⟨-, -, he⟩ | ⟨-, -, rfl⟩ | ⟨-, hm⟩ | ⟨-, hm⟩ | ⟨r, l, -, rfl⟩ | ⟨l, hi, -⟩
  · exact engineStep_readings he
  · exact (engineStep_readings he).of_dropInput
  · exact engineStep_readings he
  · exact .inl ⟨rfl, rfl, rfl⟩
  · exact hm.readings.of_dropInput
  · exact hm.readings.of_dropInput
  · exact .inl ⟨rfl, rfl, rfl⟩
  · simp [resetNext, hi] at hreset

/-- A read in progress that is not RECV's is READPM's or INIT's (R153, R155). -/
theorem ReadOwner.composite {s : State} (h : ReadOwner s) (hop : s.curOp ≠ Config.opRecv) :
    s.curOp = Config.opReadpm ∨ s.curOp = Config.opInit := by
  rcases h with ⟨hrecv, -⟩ | ⟨hcomp, -, -⟩
  · exact absurd hrecv hop
  · exact hcomp

/-- Settles O34: a step that changes a reading ends a read in the commit of a measurement. -/
theorem readingsChangeOnlyOnSuccess : Obligations.ReadingsChangeOnlyOnSuccess := by
  intro s t hinv hreset h hne
  rcases step_readings hreset h with hsame | ⟨hp, hend⟩
  · exact absurd hsame.pm10 (hne.resolve_left (absurd hsame.pm25))
  · obtain ⟨hop, u, rfl⟩ := hend.measured_of_changed hne
    exact ⟨(hinv.readOwner hp).composite hop, hp, rfl, hinv.busy_of_reading hp, rfl, rfl, rfl, rfl, rfl, rfl, rfl⟩

/-- Settles O35: a step that changes `status` ends a read. -/
theorem statusChangesOnlyWhenReadEnds : Obligations.StatusChangesOnlyWhenReadEnds := by
  intro s t hreset h hne
  rcases step_readings hreset h with hsame | ⟨hp, hend⟩
  · exact absurd hsame.status hne
  · exact ⟨hp, hend.pstate, hend.busy, hend.status_resOk⟩

end Sys2Proof.Machine
end

section
/-!
The host's register reads (spec/10_state.md R19, R22): what a read does to the state, and the layout of what it returns.
-/

namespace Sys2Proof.Machine

/-- A register read puts its register on the port's output and does nothing else (R22). -/
theorem step_readReg {s : State} {r : CReg} {rest : List Event} (h : s.inputs = .readReg r :: rest) :
    step s = .next { s with rdata := creg r s, inputs := rest } := by
  simp [step, h, setRdata, dropInput, creg]

/-- The layout of CR4, from its lowest bit: `res_n`, `res_cause`, `res_ok`, `busy`, zeros (R19). -/
theorem getLsbD_cr4 (s : State) (i : Nat) :
    (creg .cr4 s).getLsbD i =
      if i < 3 then s.resN.getLsbD i else if i < 6 then s.resCause.code.getLsbD (i - 3)
      else if i = 6 then s.resOk else if i = 7 then s.busy else false := by
  rw [creg, BitVec.getLsbD_setWidth]
  simp only [BitVec.getLsbD_append, BitVec.getLsbD_ofBool]
  grind

/-- The fields of CR4 that are wider than a bit, cut out of its layout (R19). -/
theorem creg_cr4_fields (s : State) :
    (creg .cr4 s).extractLsb' 7 9 = BitVec.setWidth 9 (BitVec.ofBool s.busy) ∧
      (creg .cr4 s).extractLsb' 3 3 = s.resCause.code ∧ (creg .cr4 s).extractLsb' 0 3 = s.resN := by
  refine ⟨?_, ?_, ?_⟩
  all_goals
    ext i hi
    rw [BitVec.getElem_extractLsb', getLsbD_cr4]
    grind

/-- The code of `res_cause` as a number (R17). -/
theorem Cause.code_toNat (c : Cause) :
    c.code.toNat = match c with
      | .none => 0 | .timeout => 1 | .checksum => 2 | .command => 3 | .length => 4 | .illegalOp => 5 := by
  cases c <;> rfl

/-- The code of `mode` as a number (R14). -/
theorem Mode.code_toNat (m : Mode) : m.code.toNat = match m with | .idle => 0 | .measuring => 1 | .stopped => 2 := by
  cases m <;> rfl

/-- Settles O56, register by register. -/
theorem registerReadReturnsRegister : Obligations.RegisterReadReturnsRegister := by
  intro s r rest h
  refine ⟨creg r s, step_readReg h, ?_⟩
  cases r with
  | cr0 => rfl
  | cr1 => rfl
  | cr2 => exact BitVec.toNat_setWidth_of_le (by decide)
  | cr3 => exact (BitVec.toNat_setWidth_of_le (by decide)).trans (Mode.code_toNat _)
  | cr4 =>
    obtain ⟨hbusy, hcause, hn⟩ := creg_cr4_fields s
    exact ⟨hbusy, getLsbD_cr4 s 6, hcause ▸ Cause.code_toNat _, hn⟩
  | cr5 => exact be16_toNat _ _
  | cr6 => exact be16_toNat _ _

end Sys2Proof.Machine
end

section
/-!
No run stops on a fault (spec/20_memory.md R46, spec/60_exceptions.md R180): the only instruction that can fault is the
reception of bytes, a poll faults only at an `idx` the invariant excludes, and the invariant says which write is due.
-/

namespace Sys2Proof.Machine

/-! ### Where a fault comes from -/

theorem frameEffect_fault {dir : Dir} {c : Byte} {ds : List Byte} {k : Byte} {s : State} {f : Fault}
    (h : frameEffect dir c ds k s = .fault f) : ∃ bytes, receiveBytes bytes s = .error f := by
  cases dir with
  | tx =>
    simp only [frameEffect] at h
    split at h <;> cases h
  | rx => exact ⟨_, outcome_fault h⟩

/-- An instruction faults only as the reception of bytes. -/
theorem exec_fault {i : Instr} {s : State} {f : Fault} (h : exec i s = .fault f) :
    ∃ bytes, receiveBytes bytes s = .error f := by
  cases i with
  | frameLen1 dir c k => exact frameEffect_fault h
  | frameLen2 dir c a k => exact frameEffect_fault h
  | frameLen3 dir c a b k => exact frameEffect_fault h
  | frameLen4 dir c a b d k => exact frameEffect_fault h
  | frameLen5 dir c a b d e k => exact frameEffect_fault h
  | frameRspMeasurement a b d e k => exact frameEffect_fault (dir := .rx) (c := Config.cmdRead) (ds := [a, b, d, e]) h
  | _ => cases h

theorem runFetch_fault {x : Fetch} {s : State} {f : Fault} (h : runFetch x s = .fault f) :
    ∃ bytes, receiveBytes bytes s = .error f := by
  unfold runFetch at h
  split at h
  · exact exec_fault h
  · unfold undecoded at h
    split at h
    · exact ⟨_, outcome_fault h⟩
    · cases h
    · cases h

/-- A step faults only in the engine's own step or in the reception of bytes, before or after its input is taken off. -/
theorem step_fault {s : State} {f : Fault} (h : step s = .fault f) :
    engineStep s = .fault f ∨ engineStep (dropInput s) = .fault f ∨
      ∃ bytes, receiveBytes bytes (dropInput s) = .error f := by
  unfold step at h
  split at h
  · exact .inl h
  · exact .inr (.inl h)
  · split at h
    · exact .inl h
    · cases h
  · exact .inr (.inr (runFetch_fault h))
  · exact .inr (.inr (runFetch_fault h))
  · cases h
  · cases h

/-- A write step faults only where no TxWrite is due (R153, R155). -/
theorem writeStep_error {s : State} {f : Fault} (h : writeStep s = .error f) : f = .noStepDue ∧ ¬ WriteDue s := by
  unfold writeStep at h
  split_ifs at h with hstart hauto hread
  refine ⟨(Except.error.inj h).symm, ?_⟩
  rintro (⟨hop, hphase⟩ | ⟨hop, hphase⟩)
  · cases hs : s.phase <;> simp_all
  · exact hread ⟨.inl hop, hphase⟩

/-! ### None from a state of the invariant -/

/-- Where a byte goes to `buf[idx]`, `idx` is within the longest frame (R46). -/
theorem Inv.idx_lt_maxFrame {s : State} (h : Inv s) (hp : s.pstate = .data ∨ s.pstate = .csum) :
    s.idx.toNat < Config.maxFrame := by
  rcases hp with hp | hp
  · obtain ⟨-, hidx, ⟨hlen, -⟩, -⟩ := (parserInv_data_iff hp).1 h.parser
    have := (lenOk_iff _).1 hlen
    simp only [Config.maxFrame]
    omega
  · obtain ⟨hidx, ⟨hlen, -⟩, -⟩ := (parserInv_csum_iff hp).1 h.parser
    have := (lenOk_iff _).1 hlen
    simp only [Config.maxFrame]
    omega

theorem pollStep_no_error {s : State} (h : Inv s) (f : Fault) : pollStep s ≠ .error f := by
  intro he
  obtain ⟨-, hp, hidx⟩ := pollStep_error he
  exact absurd (h.idx_lt_maxFrame hp) (Nat.not_lt.2 hidx)

theorem receiveBytes_no_error {s : State} (h : Inv s) (bytes : List Byte) (f : Fault) :
    receiveBytes bytes s ≠ .error f :=
  pollMany_no_error (P := Inv) (fun _ _ _ hs hq => pollStep_inv hs hq) (fun _ f _ hs => pollStep_no_error hs f) _ _ f
    (h.of_other_registers _ _ _ _ _ (s.rx ++ bytes.map some) _ _ _ _)

theorem engineStep_no_fault {s : State} (h : Inv s) (f : Fault) : engineStep s ≠ .fault f := by
  unfold engineStep
  split
  · exact fun he => pollStep_no_error h f (outcome_fault he)
  · next hp =>
    split
    · next hbusy =>
      intro he
      obtain ⟨-, hdue⟩ := writeStep_error (outcome_fault he)
      exact hdue (h.writeDue hbusy (not_not.1 hp))
    · nofun

theorem step_no_fault {s : State} (h : Inv s) (f : Fault) : step s ≠ .fault f := by
  intro hf
  rcases step_fault hf with he | he | ⟨bytes, hr⟩
  · exact engineStep_no_fault h f he
  · exact engineStep_no_fault (dropInput_inv h) f he
  · exact receiveBytes_no_error (dropInput_inv h) bytes f hr

/-- Settles O31: the invariant is kept by every step and rules out the fault of one. -/
theorem invariantStatesNeverFault : Obligations.InvariantStatesNeverFault :=
  neverFaults_of (P := Inv) (fun _ _ h ht => step_inv h ht) (fun _ f h => step_no_fault h f)

/-- Settles O32: the invariant holds at reset and does not speak of the inputs, the answers and READ_BUDGET. -/
theorem runsFromResetNeverFault : Obligations.RunsFromResetNeverFault := fun evs answers b =>
  invariantStatesNeverFault _ (inv_reset.of_other_registers _ _ _ _ _ answers _ b _ evs)

end Sys2Proof.Machine
end

section
/-!
The traffic on the link (spec/20_memory.md R41, R43, R51): a step writes one frame of the encoder, or polls in a read, or
does neither.
-/

namespace Sys2Proof.Machine

/-! ### The frames of the encoder -/

theorem isCommand_iff (c : Byte) : isCommand c = true ↔ c ∈ commandCodes := by
  simp [isCommand, commandCodes, Config.cmdStart, Config.cmdStop, Config.cmdRead, Config.cmdCoeff, Config.cmdStopAuto,
    Config.cmdEnAuto, or_assoc]

/-- A frame of the encoder is valid for its own command (R95). -/
theorem validFrameFor_buildFrame (c : Byte) {ps : List Byte} (hn : ps.length ≤ 4) :
    validFrameFor (buildFrame c ps) c = true := by
  have hhead : (buildFrame c ps)[0]? = some Config.head := rfl
  have hlen : (buildFrame c ps)[1]? = some (BitVec.ofNat 8 (1 + ps.length)) := rfl
  have hcmd : (buildFrame c ps)[2]? = some c := rfl
  have hsize : ps.length + 4 - 3 = 1 + ps.length := by omega
  rw [validFrameFor, validFrame, checkOk, hhead, hlen, hcmd, buildFrame_length, hsize, sum8_buildFrame]
  simp [hn]

/-! ### Polls -/

/-- What polls do on the link: nothing is written, and each costs one of the budget (R122, R193). -/
structure Polled (s t : State) : Prop where
  tx : t.tx = s.tx
  cost : t.polls + t.budget.toNat = s.polls + s.budget.toNat

theorem Polled.refl (s : State) : Polled s s := ⟨rfl, rfl⟩

theorem Polled.trans {s t u : State} (h : Polled s t) (h' : Polled t u) : Polled s u :=
  ⟨h'.tx.trans h.tx, h'.cost.trans h.cost⟩

theorem polled_chargePoll {s : State} (h : s.budget ≠ 0) : Polled s (chargePoll s) := by
  have hone : (s.budget - 1).toNat = s.budget.toNat - 1 := BitVec.toNat_sub_of_le (by bv_omega)
  refine ⟨rfl, ?_⟩
  rw [chargePoll_polls, chargePoll_budget, hone]
  bv_omega

theorem endOfFrame_polled (b : Byte) (s : State) : Polled s (endOfFrame b s) := by
  obtain ⟨-, he⟩ | ⟨-, -, he⟩ | ⟨-, -, -, -, he⟩ | ⟨-, -, -, he⟩ | ⟨-, -, -, -, he⟩ := endOfFrame_cases b s <;>
    exact he ▸ ⟨rfl, rfl⟩

/-- The byte that a poll has brought is taken without another poll (R122). -/
theorem takeByte_polled {b : Byte} {s t : State} (h : takeByte b s = .ok t) : Polled s t := by
  rcases takeByte_ok h with ⟨-, rfl⟩ | ⟨-, -, rfl⟩ | ⟨-, -, rfl⟩ | ⟨-, -, rfl⟩ | ⟨-, -, rfl⟩ | ⟨-, rfl⟩ | ⟨-, -, rfl⟩ |
    ⟨-, -, rfl⟩
  -- before the checksum byte, the parser's registers or a failure; then the verdict on the frame
  iterate 7 exact ⟨rfl, rfl⟩
  exact .trans (t := { s with buf := cellPut s.buf s.idx.toNat b }) ⟨rfl, rfl⟩ (endOfFrame_polled b _)

theorem pollStep_polled {s t : State} (h : pollStep s = .ok t) : Polled s t := by
  rcases pollStep_ok h with ⟨-, rfl⟩ | ⟨hb, -, rfl⟩ | ⟨hb, b, -, ht⟩
  · exact ⟨rfl, rfl⟩
  · exact polled_chargePoll hb
  · exact (polled_chargePoll hb).trans (takeByte_polled ht)

theorem pollMany_polled {n : Nat} {s t : State} (h : pollMany n s = .ok t) : Polled s t :=
  pollMany_keeps (P := Polled s) (fun _ _ _ hu hv => hu.trans (pollStep_polled hv)) n s t (.refl s) h

/-- Outside a read the bytes received wait behind what waits already (R43). -/
theorem receiveBytes_idle {s : State} (h : s.pstate = .idle) (bytes : List Byte) :
    receiveBytes bytes s = .ok { s with rx := s.rx ++ bytes.map some } :=
  pollMany_idle (s := { s with rx := s.rx ++ bytes.map some }) h

/-! ### Steps -/

/-- What one step does on the link. -/
inductive Traffic (s t : State) : Prop where
  /-- It neither writes nor polls. -/
  | silent (htx : t.tx = s.tx) (hpolls : t.polls = s.polls)
  /-- It writes one frame of the encoder, as an operation that starts or as the write of a composite (R40, R41). -/
  | wrote (c : Byte) (ps : List Byte) (hc : isCommand c = true) (hn : ps.length ≤ 4)
      (hfree : s.busy = false ∨ s.pstate = .idle) (htx : t.tx = s.tx ++ buildFrame c ps) (hpolls : t.polls = s.polls)
  /-- It polls in a read (R43). -/
  | polled (hp : s.pstate ≠ .idle) (h : Polled s t)

theorem receiveBytes_traffic {bytes : List Byte} {s t : State} (h : receiveBytes bytes s = .ok t) : Traffic s t := by
  by_cases hp : s.pstate = .idle
  · cases (receiveBytes_idle hp bytes).symm.trans h
    exact .silent rfl rfl
  · have hpolled : Polled { s with rx := s.rx ++ bytes.map some } t := pollMany_polled h
    exact .polled hp ⟨hpolled.tx, hpolled.cost⟩

theorem writeStep_traffic {s t : State} (hp : s.pstate = .idle) (h : writeStep s = .ok t) : Traffic s t := by
  rcases writeStep_ok h with ⟨-, -, rfl⟩ | ⟨-, -, rfl⟩ | ⟨-, -, rfl⟩
  · exact .wrote Config.cmdStart [] rfl (by decide) (.inr hp) rfl rfl
  · exact .wrote Config.cmdEnAuto [] rfl (by decide) (.inr hp) rfl rfl
  · exact .wrote Config.cmdRead [] rfl (by decide) (.inr hp) rfl rfl

theorem engineStep_traffic {s t : State} (h : engineStep s = .next t) : Traffic s t := by
  rcases engineStep_next h with ⟨hp, hq⟩ | ⟨hp, -, hq⟩ | ⟨-, -, rfl⟩
  · exact .polled hp (pollStep_polled hq)
  · exact writeStep_traffic hp hq
  · exact .silent rfl rfl

theorem ExecMove.traffic {s t : State} (m : ExecMove s t) : Traffic s t := by
  cases m with
  | sent op c ps hb _ hc hn => exact .wrote c ps hc hn (.inl hb) rfl rfl
  | received bytes t h => exact receiveBytes_traffic h
  | _ => exact .silent rfl rfl

theorem Traffic.of_dropInput {s t : State} (h : Traffic (dropInput s) t) : Traffic s t := by
  cases h with
  | silent htx hpolls => exact .silent htx hpolls
  | wrote c ps hc hn hfree htx hpolls => exact .wrote c ps hc hn hfree htx hpolls
  | polled hp h => exact .polled hp ⟨h.tx, h.cost⟩

/-- What every step does on the link, whatever the next input. -/
theorem step_traffic {s t : State} (h : step s = .next t) : Traffic s t := by
  rcases step_next h with ⟨-, he⟩ | ⟨-, he⟩ | ⟨-, -, he⟩ | ⟨-, -, rfl⟩ | ⟨-, hm⟩ | ⟨-, hm⟩ | ⟨r, l, -, rfl⟩ | ⟨l, -, rfl⟩
  · exact engineStep_traffic he
  · exact (engineStep_traffic he).of_dropInput
  · exact engineStep_traffic he
  · exact .silent rfl rfl
  · exact hm.traffic.of_dropInput
  · exact hm.traffic.of_dropInput
  · exact .silent rfl rfl
  · exact .silent rfl rfl

/-- Settles O37: what a step writes is a frame of the encoder, and by the invariant no read is in progress then. -/
theorem txGrowsByOneValidFrame : Obligations.TxGrowsByOneValidFrame := by
  intro s t h
  cases step_traffic h with
  | silent htx _ => exact ⟨[], by simpa using htx, .inl rfl, fun _ _ => rfl⟩
  | polled _ hpolled => exact ⟨[], by simpa using hpolled.tx, .inl rfl, fun _ _ => rfl⟩
  | wrote c ps hc hn hfree htx _ =>
    refine ⟨buildFrame c ps, htx, .inr ⟨c, (isCommand_iff c).1 hc, validFrameFor_buildFrame c hn⟩, fun hinv hp => ?_⟩
    rcases hfree with hbusy | hidle
    · exact absurd (hinv.idleParser hbusy) hp
    · exact absurd hidle hp

/-- Settles O38: of all that a step does on the link only the polls of a read change the count. -/
theorem pollsOnlyInsideReadAndCostBudget : Obligations.PollsOnlyInsideReadAndCostBudget := by
  intro s t h hne
  cases step_traffic h with
  | silent _ hpolls => exact absurd hpolls hne
  | wrote _ _ _ _ _ _ hpolls => exact absurd hpolls hne
  | polled hp hpolled => exact ⟨hp, hpolled.tx, hpolled.cost⟩

/-! ### Frames outside a read -/

/-- Outside a read a frame on the RX side only joins the answers still to come (R43). -/
theorem frameEffect_rx_idle {s : State} (h : s.pstate = .idle) (c : Byte) (ds : List Byte) (k : Byte) :
    frameEffect .rx c ds k s = .next { s with rx := s.rx ++ (wireFrame Config.head c ds k).map some } :=
  congrArg outcome (receiveBytes_idle h _)

/-- Settles O43, row by row: each row's bytes are its frame on the wire. -/
theorem receivedFrameWaitsOutsideRead : Obligations.ReceivedFrameWaitsOutsideRead := by
  intro s c a b d e k h
  exact ⟨frameEffect_rx_idle h c [] k, frameEffect_rx_idle h c [a] k, frameEffect_rx_idle h c [a, b] k,
    frameEffect_rx_idle h c [a, b, d] k, frameEffect_rx_idle h c [a, b, d, e] k,
    frameEffect_rx_idle h Config.cmdRead [a, b, d, e] k⟩

end Sys2Proof.Machine
end

section
/-!
The encoding of the host operations (spec/30_encoding.md R71 to R73): what the fields of a packed word are, and which fields
of a word the decoder reads.
-/

namespace Sys2Proof.Machine

/-! ### The fields of a packed word -/

section
variable (op : BitVec 4) (cmd : Byte) (n : BitVec 3) (p0 p1 p2 p3 : Byte) (bud : Half)

@[simp] theorem fieldOp_packWord : fieldOp (packWord op cmd n p0 p1 p2 p3 bud) = op := by
  rw [fieldOp, packWord]
  iterate 7 rw [BitVec.extractLsb'_append_eq_of_add_le (by decide)]
  exact BitVec.extractLsb'_append_eq_right

@[simp] theorem fieldCmd_packWord : fieldCmd (packWord op cmd n p0 p1 p2 p3 bud) = cmd := by
  rw [fieldCmd, packWord]
  iterate 7 rw [BitVec.extractLsb'_append_eq_of_add_le (by decide)]
  exact BitVec.extractLsb'_append_eq_left

@[simp] theorem fieldNparam_packWord : fieldNparam (packWord op cmd n p0 p1 p2 p3 bud) = n := by
  rw [fieldNparam, packWord]
  iterate 6 rw [BitVec.extractLsb'_append_eq_of_add_le (by decide)]
  exact BitVec.extractLsb'_append_eq_left

@[simp] theorem fieldP0_packWord : fieldP0 (packWord op cmd n p0 p1 p2 p3 bud) = p0 := by
  rw [fieldP0, packWord]
  iterate 4 rw [BitVec.extractLsb'_append_eq_of_add_le (by decide)]
  exact BitVec.extractLsb'_append_eq_left

@[simp] theorem fieldP1_packWord : fieldP1 (packWord op cmd n p0 p1 p2 p3 bud) = p1 := by
  rw [fieldP1, packWord]
  iterate 3 rw [BitVec.extractLsb'_append_eq_of_add_le (by decide)]
  exact BitVec.extractLsb'_append_eq_left

@[simp] theorem fieldP2_packWord : fieldP2 (packWord op cmd n p0 p1 p2 p3 bud) = p2 := by
  rw [fieldP2, packWord]
  iterate 2 rw [BitVec.extractLsb'_append_eq_of_add_le (by decide)]
  exact BitVec.extractLsb'_append_eq_left

@[simp] theorem fieldP3_packWord : fieldP3 (packWord op cmd n p0 p1 p2 p3 bud) = p3 := by
  rw [fieldP3, packWord, BitVec.extractLsb'_append_eq_of_add_le (by decide)]
  exact BitVec.extractLsb'_append_eq_left

@[simp] theorem fieldBud_packWord : fieldBud (packWord op cmd n p0 p1 p2 p3 bud) = bud :=
  BitVec.extractLsb'_append_eq_left

end

/-! ### The fields the decoder reads -/

theorem decodeWord_of_send {w : OpWord} (h : fieldOp w = Config.opSend) :
    decodeWord w = .send (fieldCmd w) (fieldNparam w) (fieldP0 w) (fieldP1 w) (fieldP2 w) (fieldP3 w) := by
  rw [decodeWord, h]
  rfl

theorem decodeWord_of_recv {w : OpWord} (h : fieldOp w = Config.opRecv) :
    decodeWord w = .recv (fieldCmd w) (fieldBud w) := by
  rw [decodeWord, h]
  rfl

/-- An operation without operands is decoded from its code alone. -/
theorem decodeWord_congr_of_op {w v : OpWord} (h : fieldOp w = fieldOp v) (hsend : fieldOp w ≠ Config.opSend)
    (hrecv : fieldOp w ≠ Config.opRecv) : decodeWord w = decodeWord v := by
  unfold decodeWord
  rw [← h]
  split
  case h_2 hop => exact absurd (BitVec.eq_of_toNat_eq hop) hsend
  case h_3 hop => exact absurd (BitVec.eq_of_toNat_eq hop) hrecv
  all_goals rfl

/-- Words that agree on some bits agree on every field among these bits. -/
theorem extractLsb'_congr_of_within {w v : OpWord} {i n : Nat} (h : w.extractLsb' i n = v.extractLsb' i n) (j k : Nat)
    (hjk : j + k ≤ n) : w.extractLsb' (i + j) k = v.extractLsb' (i + j) k := by
  ext b hb
  have hbit := congrArg (BitVec.getLsbD · (j + b)) h
  simp only [BitVec.getLsbD_extractLsb', show j + b < n by omega, decide_true, Bool.true_and] at hbit
  rw [BitVec.getElem_extractLsb', BitVec.getElem_extractLsb', Nat.add_assoc, hbit]

/-- Settles O52: the fields an operation uses lie within the bits on which the two words agree. -/
theorem unusedFieldsAreIgnored : Obligations.UnusedFieldsAreIgnored := by
  intro w v hop
  refine ⟨fun hsend hrecv => decodeWord_congr_of_op hop hsend hrecv, fun hsend hhead hparams => ?_,
    fun hrecv hcmd hbud => ?_⟩
  · have hc : fieldCmd w = fieldCmd v := extractLsb'_congr_of_within hhead 0 8 (by decide)
    have hn : fieldNparam w = fieldNparam v := extractLsb'_congr_of_within hhead 8 3 (by decide)
    have h0 : fieldP0 w = fieldP0 v := extractLsb'_congr_of_within hparams 0 8 (by decide)
    have h1 : fieldP1 w = fieldP1 v := extractLsb'_congr_of_within hparams 8 8 (by decide)
    have h2 : fieldP2 w = fieldP2 v := extractLsb'_congr_of_within hparams 16 8 (by decide)
    have h3 : fieldP3 w = fieldP3 v := extractLsb'_congr_of_within hparams 24 8 (by decide)
    rw [decodeWord_of_send hsend, decodeWord_of_send (hop.symm.trans hsend), hc, hn, h0, h1, h2, h3]
  · rw [decodeWord_of_recv hrecv, decodeWord_of_recv (hop.symm.trans hrecv)]
    exact congrArg₂ Instr.recv hcmd hbud

end Sys2Proof.Machine
end

section
/-!
The encoding of the frames (spec/30_encoding.md R60 to R64, R69, R70): which bytes are a frame on the wire, which row each side of
the link has for a frame, and what the row does.
-/

namespace Sys2Proof.Machine

/-! ### Bytes on the wire -/

/-- Bytes with a head and a length byte of their number are a frame on the wire (R60, R61). -/
theorem eq_wireFrame_of_length {h l c x : Byte} {rest : List Byte} (hl : l = BitVec.ofNat 8 (rest.length + 1)) :
    h :: l :: c :: x :: rest =
      wireFrame h c (x :: rest).dropLast ((x :: rest).getLast (List.cons_ne_nil x rest)) := by
  rw [wireFrame, List.dropLast_append_getLast, List.length_dropLast, List.length_cons, Nat.add_sub_cancel, hl,
    Nat.add_comm 1]

/-- A frame on the wire is decoded by its side, command byte, data and checksum byte (R60). -/
theorem decodeFrame_wireFrame (dir : Dir) (c : Byte) {ds : List Byte} (k : Byte) (hn : ds.length ≤ 4) :
    decodeFrame dir (wireFrame (headOf dir) c ds k) = decodeBody dir c ds k := by
  have hl : (BitVec.ofNat 8 (1 + ds.length)).toNat + 3 = (wireFrame (headOf dir) c ds k).length := by
    rw [wireFrame_length, BitVec.toNat_ofNat, Nat.mod_eq_of_lt (by omega)]
    omega
  obtain ⟨x, rest, hbody⟩ := List.exists_cons_of_ne_nil (List.append_ne_nil_of_right_ne_nil ds (List.cons_ne_nil k []))
  simp only [wireFrame, hbody] at hl ⊢
  rw [decodeFrame, if_neg (not_not.2 rfl), if_neg (not_not.2 hl)]
  simp only [← hbody, List.dropLast_concat, List.getLast_concat]

/-- What decodes on a side of the link is a frame on the wire, decoded by its parts. -/
theorem decodeFrame_ok {dir : Dir} {bytes : List Byte} {i : Instr} (h : decodeFrame dir bytes = .ok i) :
    ∃ c ds k, bytes = wireFrame (headOf dir) c ds k ∧ decodeBody dir c ds k = .ok i := by
  unfold decodeFrame at h
  split at h
  · next hd l c x rest =>
    split_ifs at h with hhead hlen
    rw [not_not] at hhead hlen
    refine ⟨c, _, _, ?_, h⟩
    rw [← hhead]
    refine eq_wireFrame_of_length (BitVec.eq_of_toNat_eq ?_)
    simp at hlen ⊢
    omega
  · cases h

/-! ### The rows of a side -/

/-- A frame that the encoder builds passes the checks of the TX side (R69, R100). -/
theorem sentFrame_of_frameOk {c : Byte} {ps : List Byte} {k : Byte} (h : frameOk .tx c ps k = true)
    (r : Except DecodeError Instr) : sentFrame c ps k r = r := by
  obtain ⟨hc, hk⟩ := Bool.and_eq_true_iff.1 h
  simp [sentFrame, hc, hk]

theorem sentFrame_ok {c : Byte} {ps : List Byte} {k : Byte} {r : Except DecodeError Instr} {i : Instr}
    (h : sentFrame c ps k r = .ok i) : frameOk .tx c ps k = true ∧ r = .ok i := by
  unfold sentFrame at h
  split_ifs at h with hc hk
  rw [Bool.not_eq_false] at hc hk
  exact ⟨Bool.and_eq_true_iff.2 ⟨hc, hk⟩, h⟩

/-- The checks of the TX side, spelt out. -/
theorem frameOk_tx_iff {c : Byte} {ps : List Byte} {k : Byte} :
    frameOk .tx c ps k = true ↔ isCommand c = true ∧ k = csum8 (frameBody c ps) := by
  simp [frameOk, txCommandOk, txChecksumOk]

/-- A frame without parameters that the encoder builds is the fixed frame of its command byte (R70). -/
theorem decodeFrame_buildFrame_nil {c : Byte} (hc : isCommand c = true) :
    decodeFrame .tx (buildFrame c []) = fixedFrame c :=
  (decodeFrame_wireFrame .tx c (ds := []) _ (Nat.zero_le 4)).trans (sentFrame_of_frameOk (frameOk_tx_iff.2 ⟨hc, rfl⟩) _)

/-- The fixed frame of a command byte is encoded as the frame of that byte without parameters (R70). -/
theorem fixedFrame_ok {c : Byte} {i : Instr} (h : fixedFrame c = .ok i) :
    i.wellFormed = true ∧ encode i = .frame .tx (buildFrame c []) := by
  unfold fixedFrame at h
  split_ifs at h with h1 h2 h3 h4 h5 h6
  all_goals
    subst c
    cases h
    exact ⟨rfl, rfl⟩

/-- A generic frame that one side of the link may carry is decoded to its row, where that side has no more special one. -/
theorem decodeBody_of_frameOk {dir : Dir} {c : Byte} {ds : List Byte} {k : Byte} {row : Dir → Instr}
    (htx : decodeBody .tx c ds k = sentFrame c ds k (.ok (row .tx)))
    (hrx : dir = .rx → decodeBody .rx c ds k = .ok (row .rx)) (hok : frameOk dir c ds k = true) :
    decodeBody dir c ds k = .ok (row dir) := by
  cases dir with
  | tx => exact htx.trans (sentFrame_of_frameOk hok _)
  | rx => exact hrx rfl

/-- The row of a frame is well formed and has the bytes of the frame. -/
theorem decodeBody_ok {dir : Dir} {c : Byte} {ds : List Byte} {k : Byte} {i : Instr}
    (h : decodeBody dir c ds k = .ok i) :
    i.wellFormed = true ∧ encode i = .frame dir (wireFrame (headOf dir) c ds k) := by
  unfold decodeBody at h
  split at h
  case h_1 =>
    obtain ⟨hok, hi⟩ := sentFrame_ok h
    obtain ⟨-, rfl⟩ := frameOk_tx_iff.1 hok
    exact fixedFrame_ok hi
  case h_3 | h_5 | h_7 =>
    obtain ⟨hok, hi⟩ := sentFrame_ok h
    cases hi
    exact ⟨hok, rfl⟩
  case h_9 =>
    obtain ⟨hok, hi⟩ := sentFrame_ok h
    cases hi
    exact ⟨by simp [Instr.wellFormed, hok], rfl⟩
  case h_10 =>
    split_ifs at h with hc
    · cases h
      exact ⟨rfl, hc ▸ rfl⟩
    · cases h
      exact ⟨by simp [Instr.wellFormed, frameOk, hc], rfl⟩
  case h_11 => cases h
  all_goals
    cases h
    exact ⟨rfl, rfl⟩

/-- On the RX side every frame of a length the engine holds has a row (R69, R138). -/
theorem decodeBody_rx (c : Byte) {ds : List Byte} (k : Byte) (hn : ds.length ≤ 4) :
    ∃ i, decodeBody .rx c ds k = .ok i := by
  match ds, hn with
  | [], _ => exact ⟨_, rfl⟩
  | [_], _ => exact ⟨_, rfl⟩
  | [_, _], _ => exact ⟨_, rfl⟩
  | [_, _, _], _ => exact ⟨_, rfl⟩
  | [a, b, d, e], _ =>
    by_cases hc : c = Config.cmdRead
    · exact ⟨_, if_pos hc⟩
    · exact ⟨_, if_neg hc⟩

/-- Settles O49: the fields of a packed word are read back, and the bytes of a well-formed frame decode to its row. -/
theorem decodeOfEncodeIsSame : Obligations.DecodeOfEncodeIsSame := by
  intro i h
  have hframe {dir : Dir} {c : Byte} {ds : List Byte} {k : Byte} (hn : ds.length ≤ 4)
      (hrow : decodeBody dir c ds k = .ok i) : decode (.frame dir (wireFrame (headOf dir) c ds k)) = .ok i :=
    (decodeFrame_wireFrame dir c k hn).trans hrow
  cases i with
  | send cmd n p0 p1 p2 p3 =>
    refine congrArg Except.ok ((decodeWord_of_send (fieldOp_packWord ..)).trans ?_)
    simp
  | recv cmd bud =>
    refine congrArg Except.ok ((decodeWord_of_recv (fieldOp_packWord ..)).trans ?_)
    simp
  | frameCmdStart | frameCmdStop | frameCmdRead | frameCmdCoeffNodata | frameCmdStopAuto | frameCmdEnAuto =>
    exact decodeFrame_buildFrame_nil rfl
  | frameLen1 dir c k =>
    obtain rfl : dir = .rx := by simpa [Instr.wellFormed] using h
    exact hframe (Nat.zero_le 4) rfl
  | frameLen2 dir c a k =>
    exact hframe (by simp) (decodeBody_of_frameOk (row := (.frameLen2 · c a k)) rfl (fun _ => rfl) h)
  | frameLen3 dir c a b k =>
    exact hframe (by simp) (decodeBody_of_frameOk (row := (.frameLen3 · c a b k)) rfl (fun _ => rfl) h)
  | frameLen4 dir c a b d k =>
    exact hframe (by simp) (decodeBody_of_frameOk (row := (.frameLen4 · c a b d k)) rfl (fun _ => rfl) h)
  | frameLen5 dir c a b d e k =>
    obtain ⟨hok, hspecial⟩ := Bool.and_eq_true_iff.1 h
    have hc : dir = .rx → c ≠ Config.cmdRead := by simpa [imp_iff_not_or] using hspecial
    exact hframe (by simp)
      (decodeBody_of_frameOk (row := (.frameLen5 · c a b d e k)) rfl (fun hrx => if_neg (hc hrx)) hok)
  | frameRspMeasurement a b d e k => exact hframe (by simp) rfl
  | _ => rfl

/-- Settles O50: what decodes is a frame on the wire, and its row has the bytes of the frame. -/
theorem encodeOfDecodedFrameIsSame : Obligations.EncodeOfDecodedFrameIsSame := by
  intro dir bytes i h
  obtain ⟨c, ds, k, rfl, hbody⟩ := decodeFrame_ok h
  exact decodeBody_ok hbody

/-- Settles O51: such bytes are a frame on the wire, and on the RX side each one has a row. -/
theorem everyReceivedFrameDecodes : Obligations.EveryReceivedFrameDecodes := by
  intro bytes hmin hmax hhead hlen
  match bytes, hmin with
  | h :: l :: c :: x :: rest, _ =>
    obtain rfl : h = Config.head := Option.some.inj hhead
    rw [eq_wireFrame_of_length (Option.some.inj hlen)]
    have hn : (x :: rest).dropLast.length ≤ 4 := by
      simp only [List.length_cons, List.length_dropLast] at hmax ⊢
      omega
    obtain ⟨i, hi⟩ := decodeBody_rx c ((x :: rest).getLast (List.cons_ne_nil x rest)) hn
    exact ⟨i, (decodeFrame_wireFrame .rx c _ hn).trans hi⟩

/-- Settles O53: fixed words and frames, decoded by evaluation. -/
theorem specWordsDecode : Obligations.SpecWordsDecode :=
  ⟨rfl, rfl, rfl, rfl, rfl, rfl⟩

/-! ### The meaning of a frame row -/

/-- A fixed frame is the frame without parameters that the encoder builds (R70). -/
theorem sendFixed_eq_frameEffect {c : Byte} (hc : isCommand c = true) (s : State) :
    sendFixed c s = frameEffect .tx c [] (csum8 (frameBody c [])) s := by
  simp [sendFixed, frameEffect, hc]

/-- An instruction that is encoded as a frame has the effect of that frame. -/
theorem exec_of_encode_frame {i : Instr} {dir : Dir} {bytes : List Byte} (h : encode i = .frame dir bytes) :
    ∃ c ds k, ds.length ≤ 4 ∧ bytes = wireFrame (headOf dir) c ds k ∧ ∀ s, exec i s = frameEffect dir c ds k s := by
  cases i <;> cases h
  case frameCmdStart | frameCmdStop | frameCmdRead | frameCmdCoeffNodata | frameCmdStopAuto | frameCmdEnAuto =>
    exact ⟨_, [], _, Nat.zero_le 4, rfl, sendFixed_eq_frameEffect rfl⟩
  case frameLen1 c k => exact ⟨c, [], k, by simp, rfl, fun _ => rfl⟩
  case frameLen2 c a k => exact ⟨c, [a], k, by simp, rfl, fun _ => rfl⟩
  case frameLen3 c a b k => exact ⟨c, [a, b], k, by simp, rfl, fun _ => rfl⟩
  case frameLen4 c a b d k => exact ⟨c, [a, b, d], k, by simp, rfl, fun _ => rfl⟩
  case frameLen5 c a b d e k => exact ⟨c, [a, b, d, e], k, by simp, rfl, fun _ => rfl⟩
  case frameRspMeasurement a b d e k => exact ⟨_, [a, b, d, e], k, by simp, rfl, fun _ => rfl⟩

/-- Settles O42: the frame's effect on TX asks for a command code and the computed checksum byte, and with both the
alternatives fail. -/
theorem foreignTxFramesAreRefused : Obligations.ForeignTxFramesAreRefused := by
  intro s i bytes c henc hcmd hforeign
  obtain ⟨c', ds, k, -, rfl, hexec⟩ := exec_of_encode_frame henc
  obtain rfl : c' = c := Option.some.inj hcmd
  rw [hexec]
  -- were it not refused, its command byte would be a code and its checksum byte the computed one
  refine if_neg fun hbuilt => ?_
  obtain ⟨hc, hk⟩ := frameOk_tx_iff.1 hbuilt
  rcases hforeign with hreserved | hsum
  · exact hreserved ((isCommand_iff c').1 hc)
  · exact hsum (hk ▸ sum8_buildFrame c' ds)

end Sys2Proof.Machine
end

section
/-!
The SENDs that go by another name (spec/30_encoding.md R70, R73, R76): the named command operations, the fixed command frames
and the reserved operation codes.
-/

namespace Sys2Proof.Machine

/-! ### A SEND and a refusal between operations -/

/-- A SEND between operations (R104): its frame, the mode, the result, and the prologue's `cur_op` and `phase`. -/
theorem sendFrame_of_idle {s : State} (h : s.busy = false) (op : BitVec 4) (c : Byte) (ps : List Byte) :
    sendFrame op c ps s =
      { s with
        tx := s.tx ++ buildFrame c ps, mode := nextMode s.mode c, resOk := true, resCause := .none, resN := 0
        resData := ⟨0, 0, 0, 0⟩, curOp := op, phase := .startFrame } := by
  cases s
  cases h
  rfl

theorem sendFixed_of_idle {s : State} (h : s.busy = false) (c : Byte) :
    sendFixed c s = .next
      { s with
        tx := s.tx ++ buildFrame c [], mode := nextMode s.mode c, resOk := true, resCause := .none, resN := 0
        resData := ⟨0, 0, 0, 0⟩, curOp := Config.opSend, phase := .startFrame } := by
  rw [sendFixed, whenIdle_of_idle _ h, sendFrame_of_idle h]

/-- A reserved code between operations is refused (R73, R187). -/
theorem refuseReserved_of_idle {s : State} (h : s.busy = false) (op : BitVec 4) :
    refuseReserved op s = .next
      { s with
        resOk := false, resCause := .illegalOp, resN := 0, resData := ⟨0, 0, 0, 0⟩, curOp := op
        phase := .startFrame } := by
  rw [refuseReserved, whenIdle_of_idle _ h]
  cases s
  cases h
  rfl

/-- Settles O7, code by code: each runs the prologue with its own code and is refused. -/
theorem reservedCodesAreRefused : Obligations.ReservedCodesAreRefused := by
  intro s h ic hic
  simp only [List.mem_cons, List.not_mem_nil, or_false] at hic
  rcases hic with rfl | rfl | rfl | rfl | rfl
  all_goals exact ⟨.startFrame, refuseReserved_of_idle h _⟩

/-! ### SENDs without parameters -/

/-- A SEND of a command code with `nparam` = 0 is the fixed frame of that code (R70, R104). -/
theorem exec_send_zero {c : Byte} (hc : isCommand c = true) (p0 p1 p2 p3 : Byte) (s : State) :
    exec (.send c 0 p0 p1 p2 p3) s = sendFixed c s := by
  have hlegal : sendLegal c 0 = true := by rw [sendLegal, hc]; rfl
  simp only [exec, execSend, hlegal, if_true]
  rfl

/-- The operation code of a SEND shows in `cur_op` only (R76), also when it is ignored. -/
theorem whenIdle_sendFrame_op (op op' : BitVec 4) (c : Byte) (ps : List Byte) (s : State) :
    whenIdle (sendFrame op c ps) s =
      { whenIdle (sendFrame op' c ps) s with curOp := (whenIdle (sendFrame op c ps) s).curOp } := by
  rcases hb : s.busy
  · rw [whenIdle_of_idle _ hb, whenIdle_of_idle _ hb]
    rfl
  · rw [whenIdle_of_busy _ hb, whenIdle_of_busy _ hb]

/-- Settles O4: each of the four is the SEND of its command byte under an operation code of its own. -/
theorem namedCommandsAreSendUpToCurOp : Obligations.NamedCommandsAreSendUpToCurOp := by
  intro s p0 p1 p2 p3 ic hic
  simp only [List.mem_cons, List.not_mem_nil, or_false] at hic
  rcases hic with rfl | rfl | rfl | rfl
  all_goals exact ⟨_, _, rfl, exec_send_zero rfl p0 p1 p2 p3 s, whenIdle_sendFrame_op _ Config.opSend _ [] s⟩

/-- Settles O40: a fixed frame is the SEND of its command byte, whose bytes and mode are evaluated. -/
theorem fixedFramesAreWritten : Obligations.FixedFramesAreWritten := by
  intro s p0 p1 p2 p3
  refine ⟨fun ic hic => ?_, fun h => ?_⟩
  · simp only [List.mem_cons, List.not_mem_nil, or_false] at hic
    rcases hic with rfl | rfl | rfl | rfl | rfl | rfl
    all_goals exact (exec_send_zero rfl p0 p1 p2 p3 s).symm
  · exact ⟨sendFixed_of_idle h _, sendFixed_of_idle h _, sendFixed_of_idle h _, sendFixed_of_idle h _,
      sendFixed_of_idle h _, sendFixed_of_idle h _⟩

end Sys2Proof.Machine
end

section
/-!
Inputs (log 6): a step runs the instruction that its input brings, and leaves the engine its own step where the host only
waits (spec/20_memory.md R44, R48, spec/60_exceptions.md R191).
-/

namespace Sys2Proof.Machine

/-! ### Instructions brought by an input -/

theorem dropInput_of_cons {s : State} {e : Event} {rest : List Event} (h : s.inputs = e :: rest) :
    dropInput s = withInputs rest s := by
  rw [dropInput, h]
  rfl

/-- What an input brings from the port or the link is decoded and run once the input is taken off. -/
theorem step_of_eventOf {s : State} {f : Fetch} {rest : List Event} (h : s.inputs = eventOf f :: rest) :
    step s = runFetch f (withInputs rest s) := by
  rw [← dropInput_of_cons h]
  cases f <;> simp only [step, h, eventOf]

theorem step_of_decode {s : State} {f : Fetch} {i : Instr} {rest : List Event} (h : s.inputs = eventOf f :: rest)
    (hd : decode f = .ok i) : step s = exec i (withInputs rest s) := by
  rw [step_of_eventOf h, runFetch, hd]

theorem step_of_decode_error {s : State} {f : Fetch} {x : DecodeError} {rest : List Event}
    (h : s.inputs = eventOf f :: rest) (hd : decode f = .error x) : step s = undecoded f (withInputs rest s) := by
  rw [step_of_eventOf h, runFetch, hd]

/-- Settles O48: the row's bits are placed as the next input, in front of the others. -/
theorem placedInstructionRunsNext : Obligations.PlacedInstructionRunsNext := by
  intro s nbits w i h
  rw [decodeTableWord] at h
  split at h
  · next f hf =>
    have hplaced : s.withFetchWord nbits w = withInputs (eventOf f :: s.inputs) s := by
      rw [State.withFetchWord, placeFetch, hf]
      rfl
    have hdecode : decode f = .ok i := by
      cases hd : decode f <;> simp_all [Except.toOption]
    rw [hplaced]
    exact step_of_decode rfl hdecode
  · cases h

/-! ### Waiting -/

/-- The engine's own step is that of the engine left alone, whatever inputs are still to come (R51). -/
theorem engineStep_of_alone (s : State) (l : List Event) :
    (∀ t, step (alone s) = .next t → engineStep (withInputs l s) = .next { t with inputs := l }) ∧
      ∀ f, step (alone s) = .fault f → engineStep (withInputs l s) = .fault f := by
  have hstep : step (alone s) = engineStep (alone s) := rfl
  have hengine := engineStep_inputs (alone s) l
  refine ⟨fun t ht => ?_, fun f hf => ?_⟩
  · rw [← hstep, ht] at hengine
    exact hengine
  · rw [← hstep, hf] at hengine
    exact hengine

theorem step_pass {s : State} {rest : List Event} (h : s.inputs = .pass :: rest) :
    step s = engineStep (withInputs rest s) := by
  rw [← dropInput_of_cons h]
  simp only [step, h]

theorem step_awaitDone_busy {s : State} {rest : List Event} (h : s.inputs = .awaitDone :: rest) (hb : s.busy = true) :
    step s = engineStep s := by
  simp only [step, h, hb, if_true]

theorem step_awaitDone_idle {s : State} {rest : List Event} (h : s.inputs = .awaitDone :: rest)
    (hb : s.busy = false) : step s = .next (withInputs rest s) := by
  rw [← dropInput_of_cons h]
  simp [step, h, hb]

/-- Settles O47, one kind of input after the other. -/
theorem stepRunsDecodedInstruction : Obligations.StepRunsDecodedInstruction := by
  intro s rest
  refine ⟨fun w h => ?_, fun dir bytes i h hd => ?_, fun bytes x h hd => ?_, fun bytes x h hd => ?_, fun h => ?_,
    fun h => ⟨fun hb => ?_, step_awaitDone_idle h⟩⟩
  · exact step_of_decode (f := .word w) h rfl
  · exact step_of_decode (f := .frame dir bytes) h hd
  · exact step_of_decode_error (f := .frame .rx bytes) h hd
  · exact step_of_decode_error (f := .frame .tx bytes) h hd
  · rw [step_pass h]
    exact engineStep_of_alone s rest
  · have hsame : withInputs (.awaitDone :: rest) s = s := by rw [← h]; rfl
    rw [step_awaitDone_busy h hb]
    exact hsame ▸ engineStep_of_alone s (.awaitDone :: rest)

end Sys2Proof.Machine
end

section
/-!
A whole frame received by a read that hunts for its head (spec/42_parser.md R125 to R130): the parser takes the candidate byte
by byte, and its checksum byte brings the checks at the end of the frame.
-/

namespace Sys2Proof.Machine

/-! ### The frame buffer -/

/-- The bytes of a list written one behind the other, the first at `i`. -/
def stored (m : Memory) (i : Nat) : List Byte → Memory
  | [] => m
  | b :: l => stored (cellPut m i b) (i + 1) l

theorem stored_concat (m : Memory) (i : Nat) (l : List Byte) (b : Byte) :
    stored m i (l ++ [b]) = cellPut (stored m i l) (i + l.length) b := by
  induction l generalizing m i with
  | nil => rfl
  | cons c l ih =>
    rw [List.cons_append, stored, ih, stored, List.length_cons]
    congr 1
    omega

/-- Each byte stored is read back, and every other address keeps its byte. -/
theorem cellGet_stored {m : Memory} (hs : m.Pairwise (fun x y => x.1 < y.1)) (i : Nat) (l : List Byte) (x : Nat) :
    cellGet (stored m i l) x = if i ≤ x then l[x - i]?.getD (cellGet m x) else cellGet m x := by
  induction l generalizing m i with
  | nil => simp [stored]
  | cons b l ih =>
    rw [stored, ih (cellPut_pairwise hs i b), cellGet_cellPut hs]
    rcases Nat.lt_trichotomy x i with hlt | rfl | hgt
    · rw [if_neg (by omega), if_neg (by omega), if_neg (by omega)]
    · rw [if_neg (by omega), if_pos rfl, if_pos (Nat.le_refl x), Nat.sub_self]
      rfl
    · rw [if_pos (Nat.succ_le_of_lt hgt), if_neg (by omega), if_pos (Nat.le_of_lt hgt),
        show x - i = x - (i + 1) + 1 by omega, List.getElem?_cons_succ]

/-! ### A candidate on its way -/

/-- What the parser waits for behind the bytes `f` of a candidate (R124 to R128). -/
def stageAfter : List Byte → PState
  | [] => .hunt
  | [_] => .len
  | [_, _] => .cmd
  | _ :: l :: c :: ds => if (c :: ds).length = l.toNat then .csum else .data

/-- The read of `s` once the candidate `f` has been taken, with the bytes `rest` still to be polled. -/
def State.taking (s : State) (f rest : List Byte) : State :=
  { s with
    budget := s.budget - BitVec.ofNat 16 f.length, rx := rest.map some, polls := s.polls + f.length
    buf := stored s.buf 0 f, sum := sum8 f, idx := BitVec.ofNat 4 f.length, len := f[1]?.getD s.len
    pstate := stageAfter f }

/-- The state in which the checks at the end of the frame `f ++ [k]` are made. -/
def State.framed (s : State) (f : List Byte) (k : Byte) : State :=
  { chargePoll (s.taking f [k]) with buf := stored s.buf 0 (f ++ [k]) }

theorem pollMany_of_byte {n : Nat} {s t : State} {b : Byte} (hp : s.pstate ≠ .idle) (hb : s.budget ≠ 0)
    (ha : s.answer 0 = some b) (ht : takeByte b (chargePoll s) = .ok t) : pollMany (n + 1) s = pollMany n t := by
  rw [pollMany, if_neg hp, pollStep, if_neg hb, ha]
  simp only [ht]

theorem budget_sub_ne_zero {b : Half} {n : Nat} (h : n < b.toNat) : b - BitVec.ofNat 16 n ≠ 0 := by
  have := b.isLt
  have hn : (BitVec.ofNat 16 n).toNat = n := by rw [BitVec.toNat_ofNat, Nat.mod_eq_of_lt (by omega)]
  intro h0
  bv_omega

/-- One byte more is one poll more, stored and added to the sum. -/
theorem taking_concat (s : State) (f : List Byte) (b : Byte) (rest : List Byte) :
    s.taking (f ++ [b]) rest =
      { chargePoll (s.taking f (b :: rest)) with
        buf := cellPut (stored s.buf 0 f) f.length b, sum := sum8 f + b, idx := BitVec.ofNat 4 f.length + 1
        len := (f ++ [b])[1]?.getD s.len, pstate := stageAfter (f ++ [b]) } := by
  simp [State.taking, chargePoll, stored_concat, BitVec.ofNat_add, Nat.add_assoc, sub_add_eq_sub_sub]

/-- The head byte begins the candidate (R125). -/
theorem takeByte_head {s : State} (hp : s.pstate = .hunt) (rest : List Byte) :
    takeByte Config.head (chargePoll { s with rx := (Config.head :: rest).map some }) =
      .ok (s.taking [Config.head] rest) := by
  have hp' : (chargePoll { s with rx := (Config.head :: rest).map some }).pstate = .hunt := hp
  simp only [takeByte, hp', takeHunt, if_true, bufWrite_of_lt (show 0 < Config.maxFrame by decide)]
  rfl

/-- A legal length byte is taken (R126). -/
theorem takeByte_taking_length (s : State) (h : Byte) {l : Byte} (rest : List Byte) (hl : lenOk l = true) :
    takeByte l (chargePoll (s.taking [h] (l :: rest))) = .ok (s.taking [h, l] rest) := by
  have hp : (chargePoll (s.taking [h] (l :: rest))).pstate = .len := rfl
  simp only [takeByte, hp, takeLen, hl, if_true, bufWrite_of_lt (show 1 < Config.maxFrame by decide)]
  exact congrArg Except.ok (taking_concat s [h] l rest).symm

/-- The command byte is taken, whichever it is (R127). -/
theorem takeByte_taking_command (s : State) (h l c : Byte) (rest : List Byte) :
    takeByte c (chargePoll (s.taking [h, l] (c :: rest))) = .ok (s.taking [h, l, c] rest) := by
  have hp : (chargePoll (s.taking [h, l] (c :: rest))).pstate = .cmd := rfl
  have hone : l = 1 ↔ 1 = l.toNat := BitVec.toNat_inj.symm.trans eq_comm
  have hstage : (if l = 1 then PState.csum else .data) = stageAfter [h, l, c] := if_congr hone rfl rfl
  simp only [takeByte, hp, takeCmd, bufWrite_of_lt (show 2 < Config.maxFrame by decide)]
  refine congrArg Except.ok (.trans ?_ (taking_concat s [h, l] c rest).symm)
  rw [List.cons_append, List.cons_append, List.nil_append, ← hstage]
  rfl

/-- Behind the command byte `idx` is the number of bytes taken (R21). -/
theorem chargePoll_taking_idx (s : State) (h l c : Byte) {ds : List Byte} (rest : List Byte) (hn : ds.length ≤ 4) :
    (chargePoll (s.taking (h :: l :: c :: ds) rest)).idx.toNat = ds.length + 3 :=
  Nat.mod_eq_of_lt (show ds.length + 3 < 2 ^ 4 by omega)

/-- A data byte is taken, and behind the last one the checksum byte is due (R128). -/
theorem takeByte_taking_data (s : State) (h c : Byte) {l : Byte} {ds : List Byte} (d : Byte) (rest : List Byte)
    (hmax : l.toNat ≤ 5) (hds : ds.length + 1 < l.toNat) :
    takeByte d (chargePoll (s.taking (h :: l :: c :: ds) (d :: rest))) =
      .ok (s.taking (h :: l :: c :: (ds ++ [d])) rest) := by
  have hp : (chargePoll (s.taking (h :: l :: c :: ds) (d :: rest))).pstate = .data := if_neg (Nat.ne_of_lt hds)
  have hi := chargePoll_taking_idx s h l c (ds := ds) (d :: rest) (by omega)
  have hnext : ((chargePoll (s.taking (h :: l :: c :: ds) (d :: rest))).idx + 1).toNat = ds.length + 4 := by
    rw [BitVec.toNat_add_of_lt (by rw [hi]; simp; omega), hi]
    rfl
  have hstage : (if ds.length + 4 = l.toNat + 2 then PState.csum else .data) = stageAfter (h :: l :: c :: (ds ++ [d])) :=
    if_congr (by simp) rfl rfl
  have hroom : ds.length + 3 < Config.maxFrame := by
    simp only [Config.maxFrame]
    omega
  simp only [takeByte, hp, takeData, hi, bufWrite_of_lt hroom]
  refine congrArg Except.ok (.trans ?_ (taking_concat s (h :: l :: c :: ds) d rest).symm)
  rw [List.cons_append, List.cons_append, List.cons_append, ← hstage, ← hnext]
  rfl

/-- The checksum byte is stored and brings the checks at the end of the frame (R129, R130). -/
theorem takeByte_taking_checksum (s : State) (h c : Byte) {l : Byte} {ds : List Byte} (k : Byte)
    (hmax : l.toNat ≤ 5) (hds : ds.length + 1 = l.toNat) :
    takeByte k (chargePoll (s.taking (h :: l :: c :: ds) [k])) = .ok (endOfFrame k (s.framed (h :: l :: c :: ds) k)) := by
  have hp : (chargePoll (s.taking (h :: l :: c :: ds) [k])).pstate = .csum := if_pos hds
  have hi := chargePoll_taking_idx s h l c (ds := ds) [k] (by omega)
  have hstored := stored_concat s.buf 0 (h :: l :: c :: ds) k
  rw [Nat.zero_add] at hstored
  have hroom : ds.length + 3 < Config.maxFrame := by
    simp only [Config.maxFrame]
    omega
  simp only [takeByte, hp, takeCsum, hi, bufWrite_of_lt hroom]
  rw [State.framed, hstored]
  rfl

/-! ### A whole frame -/

theorem stageAfter_ne_idle (f : List Byte) : stageAfter f ≠ .idle := by
  unfold stageAfter
  split
  case h_4 => split <;> simp
  all_goals simp

/-- A byte that waits behind a candidate costs one poll, if there is budget for it (R122). -/
theorem pollMany_taking {n : Nat} {s t : State} {f rest : List Byte} {b : Byte} (hbud : f.length < s.budget.toNat)
    (ht : takeByte b (chargePoll (s.taking f (b :: rest))) = .ok t) :
    pollMany (n + 1) (s.taking f (b :: rest)) = pollMany n t :=
  pollMany_of_byte (stageAfter_ne_idle f) (budget_sub_ne_zero hbud) rfl ht

/-- The data bytes of a candidate, one poll each (R128). -/
theorem pollMany_taking_data {s : State} (h c : Byte) {l : Byte} (ds es rest : List Byte) (n : Nat) (hmax : l.toNat ≤ 5)
    (hlen : ds.length + es.length + 1 ≤ l.toNat) (hbud : l.toNat + 3 ≤ s.budget.toNat) :
    pollMany (n + es.length) (s.taking (h :: l :: c :: ds) (es ++ rest)) =
      pollMany n (s.taking (h :: l :: c :: (ds ++ es)) rest) := by
  induction es generalizing ds with
  | nil => simp
  | cons d es ih =>
    rw [List.length_cons] at hlen
    calc pollMany (n + es.length + 1) (s.taking (h :: l :: c :: ds) (d :: (es ++ rest)))
      _ = pollMany (n + es.length) (s.taking (h :: l :: c :: (ds ++ [d])) (es ++ rest)) :=
        pollMany_taking (by simp; omega) (takeByte_taking_data s h c d _ hmax (by omega))
      _ = pollMany n (s.taking (h :: l :: c :: (ds ++ d :: es)) rest) := by
        rw [ih (ds ++ [d]) (by simp; omega), List.append_assoc, List.singleton_append]

/-- A frame of at most four data bytes, received by a read that hunts for its head with nothing waiting and budget for all
its bytes, comes to the checks at its end (R125 to R130). -/
theorem frameEffect_rx_hunting {s : State} (hp : s.pstate = .hunt) (hrx : s.rx = []) (c : Byte) {ds : List Byte} (k : Byte)
    (hn : ds.length ≤ 4) (hbud : ds.length + 4 ≤ s.budget.toNat) :
    frameEffect .rx c ds k s =
      .next (endOfFrame k (s.framed (Config.head :: BitVec.ofNat 8 (1 + ds.length) :: c :: ds) k)) := by
  generalize hl : BitVec.ofNat 8 (1 + ds.length) = l
  have hlen : l.toNat = ds.length + 1 := by
    rw [← hl, BitVec.toNat_ofNat, Nat.mod_eq_of_lt (by omega), Nat.add_comm]
  have hok : lenOk l = true := (lenOk_iff l).2 (by omega)
  have hb : s.budget ≠ 0 := by
    intro h0
    simp [h0] at hbud
  suffices receiveBytes (wireFrame Config.head c ds k) s = .ok (endOfFrame k (s.framed (Config.head :: l :: c :: ds) k)) from
    congrArg outcome this
  calc receiveBytes (wireFrame Config.head c ds k) s
    _ = pollMany (ds.length + 4) { s with rx := (Config.head :: l :: c :: (ds ++ [k])).map some } := by
      rw [receiveBytes, hrx, wireFrame_length, wireFrame, hl, List.length_nil, Nat.zero_add, List.nil_append]
    _ = pollMany (ds.length + 3) (s.taking [Config.head] (l :: c :: (ds ++ [k]))) :=
      pollMany_of_byte (by simp [hp]) hb rfl (takeByte_head hp _)
    _ = pollMany (ds.length + 2) (s.taking [Config.head, l] (c :: (ds ++ [k]))) :=
      pollMany_taking (by simp; omega) (takeByte_taking_length s _ _ hok)
    _ = pollMany (ds.length + 1) (s.taking [Config.head, l, c] (ds ++ [k])) :=
      pollMany_taking (by simp; omega) (takeByte_taking_command s _ _ _ _)
    _ = pollMany 1 (s.taking (Config.head :: l :: c :: ds) [k]) := by
      rw [Nat.add_comm, pollMany_taking_data _ c [] ds [k] 1 (by omega) (by simp; omega) (by omega), List.nil_append]
    _ = .ok (endOfFrame k (s.framed (Config.head :: l :: c :: ds) k)) :=
      pollMany_taking (n := 0) (by simp; omega) (takeByte_taking_checksum s _ c k (by omega) hlen.symm)

/-! ### The measurement response -/

/-- At the checks the buffer holds the frame (R129). -/
theorem bufAt_framed {s : State} (hw : Memory.wf s.buf = true) (f : List Byte) (k : Byte) (i : Nat) :
    (s.framed f k).bufAt i = (f ++ [k])[i]?.getD (s.bufAt i) := by
  obtain ⟨hs, -⟩ := (wf_iff _).1 hw
  exact (cellGet_stored hs 0 _ i).trans (if_pos (Nat.zero_le i))

/-- A frame of length 5 for the expected command whose bytes sum to 0 is a measurement in the read of READPM or INIT (R130,
R152). -/
theorem endOfFrame_of_measurement {b : Byte} {s : State} (hsum : checksumGood s.sum b = true)
    (hcmd : s.bufAt 2 = s.expect) (hop : s.curOp ≠ Config.opRecv) (hlen : s.len = Config.lenMeas) :
    endOfFrame b s = commitMeasurement s := by
  simp [endOfFrame, hsum, hcmd, hop, hlen]

/-- The running sum of a measurement response before its checksum byte (R64). -/
theorem sum8_measurement (a b d e : Byte) : sum8 [0x40, 0x05, 0x04, a, b, d, e] = 0x49 + a + b + d + e := by
  simp only [sum8_cons, sum8_nil, add_zero, ← BitVec.add_assoc]
  rfl

/-- Settles O46: the frame comes to the checks at its end, passes each, and is committed from the buffer. -/
theorem measurementFrameIsAccepted : Obligations.MeasurementFrameIsAccepted := by
  intro s a b d e k hw hp hop hexpect hrx hbud hsum
  have hread := bufAt_framed hw [0x40, 0x05, 0x04, a, b, d, e] k
  refine ⟨stored s.buf 0 [0x40, 0x05, 0x04, a, b, d, e, k], hread, ?_⟩
  have hgood : checksumGood (sum8 [0x40, 0x05, 0x04, a, b, d, e]) k = true := by
    rw [sum8_measurement, checksumGood, add8, hsum]
    rfl
  have hnotRecv : s.curOp ≠ Config.opRecv := by rcases hop with h | h <;> rw [h] <;> decide
  have hbudget : s.budget - 8 = s.budget - 7 - 1 := sub_add_eq_sub_sub s.budget 7 1
  calc exec (.frameRspMeasurement a b d e k) s
    _ = .next (endOfFrame k (s.framed [0x40, 0x05, 0x04, a, b, d, e] k)) :=
      frameEffect_rx_hunting hp hrx Config.cmdRead (ds := [a, b, d, e]) k (by simp) hbud
    _ = .next (commitMeasurement (s.framed [0x40, 0x05, 0x04, a, b, d, e] k)) :=
      congrArg _ (endOfFrame_of_measurement hgood ((hread 2).trans hexpect.symm) hnotRecv rfl)
    _ = _ := by
      rw [commitMeasurement, hread, hread, hread, hread, hbudget, ← sum8_measurement, hrx]
      rfl

end Sys2Proof.Machine
end

section
/-!
The checksum unit (spec/40_checksum.md R90 to R96): `Sum8` as a sum, the frames that pass, and what a read that succeeds
holds in the buffer.
-/

namespace Sys2Proof.Machine

/-! ### Sums -/

theorem sum8_eq_sum (l : List Byte) : sum8 l = l.sum := by
  induction l with
  | nil => rfl
  | cons b l ih => rw [sum8_cons, List.sum_cons, ih]

/-- `Sum8` is the natural sum with its carries dropped (R90). -/
theorem sum8_toNat (l : List Byte) : (sum8 l).toNat = (l.map BitVec.toNat).sum % 256 := by
  induction l with
  | nil => rfl
  | cons b l ih => rw [sum8_cons, BitVec.toNat_add, ih, List.map_cons, List.sum_cons, Nat.add_mod_mod]

/-- `Sum8` does not see the order of the bytes (R90). -/
theorem sum8_perm {l l' : List Byte} (h : l.Perm l') : sum8 l = sum8 l' := by
  rw [sum8_eq_sum, sum8_eq_sum, h.sum_eq]

/-- A byte replaced changes the sum by the difference of the two bytes. -/
theorem sum8_set {f : List Byte} {i : Nat} {b : Byte} (h : f[i]? = some b) (c : Byte) :
    sum8 (f.set i c) = sum8 f + (-b + c) := by
  obtain ⟨hi, rfl⟩ := List.getElem?_eq_some_iff.1 h
  rw [sum8_eq_sum, sum8_eq_sum, List.sum_set', dif_pos hi]

/-- `Sum8` is 0 when the natural sum is a multiple of 256 (R90). -/
theorem sum8_eq_zero_iff (l : List Byte) : sum8 l = 0 ↔ (l.map BitVec.toNat).sum % 256 = 0 := by
  rw [← sum8_toNat, ← BitVec.toNat_inj]
  rfl

/-- The checksum byte is the only one that brings the sum to 0 (R91). -/
theorem sum8_concat_eq_zero_iff (l : List Byte) (c : Byte) : sum8 (l ++ [c]) = 0 ↔ c = csum8 l := by
  rw [sum8_append, sum8_cons, sum8_nil, add_zero, csum8, neg8, add_eq_zero_iff_eq_neg']

/-- Settles O57: the carries dropped on the way are those dropped at the end. -/
theorem sumIsModulo256AnyOrder : Obligations.SumIsModulo256AnyOrder := fun l =>
  ⟨sum8_toNat l, fun _ h => (sum8_perm h).symm⟩

/-- Settles O58: the natural total is a multiple of 256 exactly when `Sum8` of the list and the byte is 0. -/
theorem checksumIsUniqueComplement : Obligations.ChecksumIsUniqueComplement := by
  refine fun l => ⟨BitVec.toNat_neg _, fun c => ?_⟩
  rw [← sum8_concat_eq_zero_iff, sum8_eq_zero_iff, List.map_append, List.sum_append, List.map_singleton,
    List.sum_singleton]

/-! ### Valid frames -/

theorem checkOk_iff (f : List Byte) : checkOk f = true ↔ sum8 f = 0 := beq_iff_eq

/-- `ValidFrame`, spelt out (R93). -/
theorem validFrame_iff (f : List Byte) :
    validFrame f = true ↔ 4 ≤ f.length ∧ f.length ≤ 8 ∧ f[0]? = some Config.head ∧
      f[1]? = some (BitVec.ofNat 8 (f.length - 3)) ∧ checkOk f = true := by
  simp [validFrame, and_assoc]

theorem validFrameFor_iff (f : List Byte) (e : Byte) :
    validFrameFor f e = true ↔ validFrame f = true ∧ f[2]? = some e := by
  simp [validFrameFor]

theorem validMeasurement_iff (f : List Byte) :
    validMeasurement f = true ↔ validFrameFor f Config.cmdRead = true ∧ f[1]? = some Config.lenMeas := by
  simp [validMeasurement]

theorem checkOk_of_validFrame {f : List Byte} (h : validFrame f = true) : checkOk f = true := by
  obtain ⟨-, -, -, -, hsum⟩ := (validFrame_iff f).1 h
  exact hsum

/-- Settles O59: the encoder's frame is valid for its own command, and so valid. -/
theorem builtFrameIsValid : Obligations.BuiltFrameIsValid := by
  intro c ps _ hn
  have hfor := validFrameFor_buildFrame c hn
  obtain ⟨hvalid, -⟩ := (validFrameFor_iff _ c).1 hfor
  exact ⟨hvalid, hfor⟩

/-! ### Damaged frames -/

/-- The checksum detects every change of a single byte (R96). -/
theorem checkOk_set_of_ne {f : List Byte} {i : Nat} {b c : Byte} (hf : checkOk f = true) (hb : f[i]? = some b)
    (hne : c ≠ b) : checkOk (f.set i c) = false := by
  rw [← Bool.not_eq_true, checkOk_iff, sum8_set hb, (checkOk_iff f).1 hf, zero_add, neg_add_eq_zero]
  exact hne.symm

/-- A byte with one of its bits inverted is another byte. -/
theorem flipBit_ne {k : Nat} (hk : k < 8) (b : Byte) : b ^^^ BitVec.twoPow 8 k ≠ b := by
  intro h
  have hbit := congrArg (BitVec.getLsbD · k) (xor_left_eq_self_iff.1 h)
  simp [hk] at hbit

/-- Settles O60: a bit inverted is a byte changed. -/
theorem singleBitFlipIsDetected : Obligations.SingleBitFlipIsDetected := by
  intro f i k b hf hb hk
  have hbad := checkOk_set_of_ne (checkOk_of_validFrame hf) hb (flipBit_ne hk b)
  exact ⟨hbad, Bool.eq_false_iff.2 fun h => Bool.eq_false_iff.1 hbad (checkOk_of_validFrame h)⟩

/-! ### The frame in the buffer -/

/-- The bytes of the frame whose length byte has been taken: `buf[0 .. len + 2]` (R128). -/
def State.frame (s : State) : List Byte := (List.range (s.len.toNat + 3)).map s.bufAt

theorem frame_getElem? (s : State) {i : Nat} (hi : i < s.len.toNat + 3) : s.frame[i]? = some (s.bufAt i) := by
  rw [State.frame, List.getElem?_map, List.getElem?_range hi, Option.map_some]

/-- The frame is valid for `e` when its head, length byte and command are in place and its bytes sum to 0 (R93). -/
theorem validFrameFor_frame {s : State} {e : Byte} (hhead : s.bufAt 0 = Config.head) (hlen : LengthTaken s)
    (hcmd : s.bufAt 2 = e) (hsum : checkOk s.frame = true) : validFrameFor s.frame e = true := by
  obtain ⟨hok, hat⟩ := hlen
  obtain ⟨hlo, hhi⟩ := (lenOk_iff _).1 hok
  have hsize : s.frame.length = s.len.toNat + 3 := by rw [State.frame, List.length_map, List.length_range]
  refine (validFrameFor_iff _ e).2 ⟨(validFrame_iff _).2 ⟨by omega, by omega, ?_, ?_, hsum⟩, ?_⟩
  · rw [frame_getElem? s (by omega), hhead]
  · rw [frame_getElem? s (by omega), hat, hsize, Nat.add_sub_cancel, BitVec.ofNat_toNat, BitVec.setWidth_eq]
  · rw [frame_getElem? s (by omega), hcmd]

/-- Its data bytes stand between the command and the checksum byte (R60). -/
theorem frame_data {s : State} (hlen : 1 ≤ s.len.toNat) :
    (s.frame.drop 3).dropLast = (List.range (s.len.toNat - 1)).map fun i => s.bufAt (3 + i) := by
  obtain ⟨n, hn⟩ := Nat.exists_eq_add_of_le' hlen
  rw [State.frame, hn, Nat.add_sub_cancel, Nat.add_comm (n + 1) 3, List.range_add, List.map_append,
    List.drop_left' (by simp), List.range_succ, List.map_append, List.map_append, List.map_singleton,
    List.map_singleton, List.dropLast_concat, List.map_map]
  rfl

/-- The payload registers are the data bytes of the frame (R136). -/
theorem payload_take {s : State} (hlen : s.len.toNat ≤ 5) :
    [(payload s).d0, (payload s).d1, (payload s).d2, (payload s).d3].take (s.len.toNat - 1) =
      (List.range (s.len.toNat - 1)).map fun i => s.bufAt (3 + i) := by
  calc [(payload s).d0, (payload s).d1, (payload s).d2, (payload s).d3].take (s.len.toNat - 1)
    _ = ((List.range 4).map fun i => if i < s.len.toNat - 1 then s.bufAt (3 + i) else 0x00).take (s.len.toNat - 1) :=
      rfl
    _ = (List.range (s.len.toNat - 1)).map fun i => if i < s.len.toNat - 1 then s.bufAt (3 + i) else 0x00 := by
      rw [← List.map_take, List.take_range, Nat.min_eq_left (by omega)]
    _ = _ := List.map_congr_left fun i hi => if_pos (List.mem_range.1 hi)

/-- A byte stored behind the first `i` bytes. -/
theorem range_bufAt_of_put {s t : State} {i : Nat} {b : Byte} (hw : Memory.wf s.buf = true)
    (hbuf : t.buf = cellPut s.buf i b) : (List.range (i + 1)).map t.bufAt = (List.range i).map s.bufAt ++ [b] := by
  have hread := bufAt_of_put hw hbuf
  rw [List.range_succ, List.map_append, List.map_singleton, hread, if_pos rfl]
  congr 1
  exact List.map_congr_left fun x hx => (hread x).trans (if_neg (Nat.ne_of_lt (List.mem_range.1 hx)))

/-! ### A read that succeeds -/

/-- What the commit of an accepted frame `t` took from the state `s` at the checks (R130, R136, R152). -/
structure Accepted (b : Byte) (s t : State) : Prop where
  sum : checksumGood s.sum b = true
  command : s.bufAt 2 = s.expect
  measurement : s.curOp ≠ Config.opRecv → s.len = Config.lenMeas
  buf : t.buf = s.buf
  resN : t.resN = (s.len - 1).setWidth 3
  resData : t.resData = payload s

/-- With four data bytes the payload fills all its registers (R136, R152). -/
theorem payload_of_lenMeas {s : State} (h : s.len = Config.lenMeas) :
    payload s = ⟨s.bufAt 3, s.bufAt 4, s.bufAt 5, s.bufAt 6⟩ := by
  simp only [payload, h]
  rfl

/-- A success at the end of a frame is a commit, whichever of the two (R130). -/
theorem endOfFrame_accepted {b : Byte} {s : State} (h : (endOfFrame b s).resOk = true) :
    Accepted b s (endOfFrame b s) := by
  obtain ⟨-, he⟩ | ⟨-, -, he⟩ | ⟨-, -, -, -, he⟩ | ⟨hsum, hcmd, hop, he⟩ | ⟨hsum, hcmd, -, hlen, he⟩ :=
    endOfFrame_cases b s <;> rw [he] at h ⊢
  -- the three failures, then the commit of RECV and that of READPM and INIT
  · cases h
  · cases h
  · cases h
  · exact ⟨hsum, hcmd, absurd hop, rfl, rfl, rfl⟩
  · exact ⟨hsum, hcmd, fun _ => hlen, rfl, by rw [hlen]; rfl, (payload_of_lenMeas hlen).symm⟩

/-- The number of data bytes as `res_n` holds it (R18). -/
theorem resN_toNat {l : Byte} (h : lenOk l = true) : ((l - 1).setWidth 3).toNat = l.toNat - 1 := by
  obtain ⟨hlo, hhi⟩ := (lenOk_iff _).1 h
  rw [BitVec.toNat_setWidth, BitVec.toNat_sub_of_le (by simpa [BitVec.le_def] using hlo)]
  exact Nat.mod_eq_of_lt (by simp; omega)

/-- The state of the read `s` in which the checks are made, with `b` its checksum byte (R129). -/
def State.atChecks (s : State) (b : Byte) : State := { chargePoll s with buf := cellPut s.buf s.idx.toNat b }

/-- The checksum byte is stored and brings the checks (R129, R130). -/
theorem takeByte_csum {s : State} (h : Inv s) (hp : s.pstate = .csum) (b : Byte) :
    takeByte b (chargePoll s) = .ok (endOfFrame b (s.atChecks b)) := by
  have hp' : (chargePoll s).pstate = .csum := hp
  have hi : (chargePoll s).idx.toNat < Config.maxFrame := h.idx_lt_maxFrame (.inr hp)
  simp only [takeByte, hp', takeCsum, bufWrite_of_lt hi]
  rfl

/-- A poll at the checksum byte that succeeds has got a byte and comes to the checks (R122, R123, R131). -/
theorem pollStep_csum_ok {s t : State} (h : Inv s) (hp : s.pstate = .csum) (ht : pollStep s = .ok t)
    (hok : t.resOk = true) : ∃ b, t = endOfFrame b (s.atChecks b) := by
  obtain ⟨hclear, -⟩ := h.resultsCleared (h.busy_of_reading (by simp [hp]))
  rcases pollStep_ok ht with ⟨-, rfl⟩ | ⟨-, -, rfl⟩ | ⟨-, b, -, hb⟩
  · cases hok
  · exact absurd (hclear.symm.trans hok) (by decide)
  · exact ⟨b, Except.ok.inj (hb.symm.trans (takeByte_csum h hp b))⟩

/-- At the checks the buffer holds the candidate and its checksum byte (R21, R129). -/
theorem atChecks_frame {s : State} (h : Inv s) (hp : s.pstate = .csum) (b : Byte) :
    (s.atChecks b).frame = taken s ++ [b] := by
  obtain ⟨hidx, -, -⟩ := (parserInv_csum_iff hp).1 h.parser
  rw [taken, ← range_bufAt_of_put h.bufWf (t := s.atChecks b) rfl, hidx]
  rfl

/-- Head and length byte of the candidate are still in place at the checks (R21, R46). -/
theorem atChecks_candidate {s : State} (h : Inv s) (hp : s.pstate = .csum) (b : Byte) :
    (s.atChecks b).bufAt 0 = Config.head ∧ LengthTaken (s.atChecks b) := by
  obtain ⟨hidx, hlen, hhead, -⟩ := (parserInv_csum_iff hp).1 h.parser
  refine ⟨?_, hlen.put h.bufWf (by omega) rfl rfl⟩
  rw [bufAt_of_put h.bufWf (t := s.atChecks b) rfl, if_neg (by omega), hhead]

/-- A candidate that passes the checks is a valid frame for the command of the read (R93, R130). -/
theorem Accepted.validFrameFor {s t : State} {b : Byte} (ha : Accepted b (s.atChecks b) t) (h : Inv s)
    (hp : s.pstate = .csum) : validFrameFor (s.atChecks b).frame s.expect = true := by
  obtain ⟨-, -, -, hsum⟩ := (parserInv_csum_iff hp).1 h.parser
  obtain ⟨hhead, hlen⟩ := atChecks_candidate h hp b
  refine validFrameFor_frame hhead hlen ha.command ?_
  rw [atChecks_frame h hp, ← checksumGood_iff, ← hsum]
  exact ha.sum

/-- In the read of READPM or INIT it is a valid measurement (R93, R153). -/
theorem Accepted.validMeasurement {s t : State} {b : Byte} (ha : Accepted b (s.atChecks b) t) (h : Inv s)
    (hp : s.pstate = .csum) (hop : s.curOp ≠ Config.opRecv) : validMeasurement (s.atChecks b).frame = true := by
  have hvalid := ha.validFrameFor h hp
  obtain ⟨-, -, hat⟩ := atChecks_candidate h hp b
  obtain ⟨hrecv, -⟩ | ⟨-, hexpect, -⟩ := h.readOwner (by simp [hp])
  · exact absurd hrecv hop
  · rw [hexpect] at hvalid
    refine (validMeasurement_iff _).2 ⟨hvalid, ?_⟩
    rw [frame_getElem? _ (by omega), hat, ha.measurement hop]

/-- Settles O28: at the checks the buffer holds the candidate and its checksum byte, and a commit takes the
payload from there. -/
theorem acceptedCandidateIsValidFrame : Obligations.AcceptedCandidateIsValidFrame := by
  intro s t h hin hp ht hok
  rw [step_reading hin (by simp [hp])] at ht
  obtain ⟨b, rfl⟩ := pollStep_csum_ok h hp (outcome_next ht) hok
  have ha := endOfFrame_accepted hok
  obtain ⟨-, hlen, -⟩ := atChecks_candidate h hp b
  obtain ⟨hlo, hhi⟩ := (lenOk_iff _).1 hlen
  have hread : (endOfFrame b (s.atChecks b)).bufAt = (s.atChecks b).bufAt :=
    funext fun i => congrArg (cellGet · i) ha.buf
  refine ⟨(s.atChecks b).frame, by rw [hread]; rfl, ha.validFrameFor h hp, ha.validMeasurement h hp, ?_⟩
  rw [ha.resData, ha.resN, resN_toNat hlen, payload_take hhi, frame_data hlo]

end Sys2Proof.Machine
end

section
/-!
The command encoder (spec/41_encoder.md R100 to R108): which SENDs are legal, the SEND a transmitted frame is, and which
bytes the TX side refuses.
-/

namespace Sys2Proof.Machine

/-! ### SEND and the named commands -/

/-- Legality of SEND, in the terms of the statements (R103). -/
theorem sendLegal_iff (c : Byte) (n : BitVec 3) : sendLegal c n = true ↔ c ∈ commandCodes ∧ n.toNat ≤ 4 := by
  rw [sendLegal, Bool.and_eq_true, isCommand_iff, decide_eq_true_iff]
  rfl

theorem paramList_length {n : BitVec 3} (hn : n.toNat ≤ 4) (p0 p1 p2 p3 : Byte) :
    (paramList n p0 p1 p2 p3).length = n.toNat :=
  List.length_take_of_le hn

/-- The parameters of a built frame stand between its command and its checksum byte (R60, R100). -/
theorem buildFrame_data (c : Byte) (ps : List Byte) : ((buildFrame c ps).drop 3).dropLast = ps :=
  List.dropLast_concat

theorem exec_send_of_legal {c : Byte} {n : BitVec 3} (h : sendLegal c n = true) (p0 p1 p2 p3 : Byte) (s : State) :
    exec (.send c n p0 p1 p2 p3) s = .next (whenIdle (sendFrame Config.opSend c (paramList n p0 p1 p2 p3)) s) := by
  simp only [exec, execSend, h, if_true]

/-- An illegal SEND is refused as a reserved code is, with the code of SEND (R73, R103). -/
theorem exec_send_of_illegal {c : Byte} {n : BitVec 3} (h : sendLegal c n = false) (p0 p1 p2 p3 : Byte) (s : State) :
    exec (.send c n p0 p1 p2 p3) s = refuseReserved Config.opSend s := by
  simp only [exec, execSend, h, Bool.false_eq_true, if_false, refuseReserved]

/-- The state in which a SEND of command `c` under operation code `op` leaves an idle engine, with `f` its frame (R104, R150,
R160). -/
def State.afterSend (s : State) (op : BitVec 4) (c : Byte) (f : List Byte) : State :=
  { s with
    tx := s.tx ++ f
    mode := if c = 0x01 ∨ c = 0x40 then .measuring else if c = 0x02 ∨ c = 0x20 then .stopped else s.mode
    resOk := true, resCause := .none, resN := 0, resData := ⟨0, 0, 0, 0⟩, curOp := op, phase := .startFrame }

theorem next_sendFrame_of_idle {s : State} (h : s.busy = false) (op : BitVec 4) (c : Byte) (ps : List Byte) :
    (.next (whenIdle (sendFrame op c ps) s) : Result) = .next (s.afterSend op c (buildFrame c ps)) := by
  rw [whenIdle_of_idle _ h, sendFrame_of_idle h]
  rfl

/-- Settles O1: the frame is the one the encoder builds of the first `nparam` parameters. -/
theorem sendWritesOneValidFrame : Obligations.SendWritesOneValidFrame := by
  intro s c n p0 p1 p2 p3 hidle hc hn
  refine ⟨buildFrame c (paramList n p0 p1 p2 p3), validFrameFor_buildFrame c (paramList_length_le ..), ?_,
    buildFrame_data c _, ?_⟩
  · rw [buildFrame_length, paramList_length hn]
  · rw [exec_send_of_legal ((sendLegal_iff c n).2 ⟨hc, hn⟩), next_sendFrame_of_idle hidle]
    rfl

/-- Settles O2: reserved command or too many parameters, the SEND is not legal. -/
theorem illegalSendIsRefused : Obligations.IllegalSendIsRefused := by
  intro s c n p0 p1 p2 p3 hidle hbad
  have hillegal : sendLegal c n = false := by
    rw [Bool.eq_false_iff, ne_eq, sendLegal_iff, not_and_or, not_le]
    exact hbad
  exact ⟨.startFrame, by rw [exec_send_of_illegal hillegal, refuseReserved_of_idle hidle]; rfl⟩

/-- Settles O3: each of the four is a SEND under its own operation code, whose bytes and mode are evaluated. -/
theorem namedCommandsWriteFixedFrames : Obligations.NamedCommandsWriteFixedFrames := by
  intro s h
  exact ⟨next_sendFrame_of_idle h _ Config.cmdStart [], next_sendFrame_of_idle h _ Config.cmdStop [],
    next_sendFrame_of_idle h _ Config.cmdEnAuto [], next_sendFrame_of_idle h _ Config.cmdStopAuto []⟩

/-! ### Transmitted frames -/

/-- The checksum byte of a frame that sums to 0 is the one the encoder computes (R91, R100). -/
theorem sum8_wireFrame_eq_zero_iff (c : Byte) (ds : List Byte) (k : Byte) :
    sum8 (wireFrame Config.headTx c ds k) = 0 ↔ k = csum8 (frameBody c ds) :=
  sum8_concat_eq_zero_iff (frameBody c ds) k

/-- The encoder's own checksum byte passes the checks of the TX side (R69, R100). -/
theorem frameOk_csum8 {c : Byte} (hc : c ∈ commandCodes) (ps : List Byte) :
    frameOk .tx c ps (csum8 (frameBody c ps)) = true :=
  frameOk_tx_iff.2 ⟨(isCommand_iff c).2 hc, rfl⟩

/-- A frame that the encoder builds is, on the TX side, the SEND that writes it (R100, R104). -/
theorem frameEffect_tx_of_frameOk {c : Byte} {ds : List Byte} {k : Byte} (h : frameOk .tx c ds k = true) (s : State) :
    frameEffect .tx c ds k s = .next (whenIdle (sendFrame Config.opSend c ds) s) :=
  if_pos h

/-- A frame of a command code and `n` parameters that sums to 0: the SEND whose effect it has, and what it writes between
operations (R40, R100, R104). -/
theorem frameEffect_tx_of_sum {c k : Byte} {n : BitVec 3} {p0 p1 p2 p3 : Byte} (hc : c ∈ commandCodes) (hn : n.toNat ≤ 4)
    (hsum : sum8 (wireFrame Config.headTx c (paramList n p0 p1 p2 p3) k) = 0) (s : State) :
    frameEffect .tx c (paramList n p0 p1 p2 p3) k s = exec (.send c n p0 p1 p2 p3) s ∧
    (s.busy = false → frameEffect .tx c (paramList n p0 p1 p2 p3) k s =
      .next (s.afterSend Config.opSend c (wireFrame Config.headTx c (paramList n p0 p1 p2 p3) k))) := by
  obtain rfl := (sum8_wireFrame_eq_zero_iff _ _ _).1 hsum
  rw [frameEffect_tx_of_frameOk (frameOk_csum8 hc _), exec_send_of_legal ((sendLegal_iff c n).2 ⟨hc, hn⟩)]
  exact ⟨rfl, fun hidle => next_sendFrame_of_idle hidle _ c _⟩

/-- Settles O41, length by length: the total of the clause is the sum of the frame's bytes. -/
theorem builtFramesAreWritten : Obligations.BuiltFramesAreWritten := by
  intro s c a b d e k hc
  have hsend (n : BitVec 3) (hn : n.toNat ≤ 4) (hsum : sum8 (wireFrame Config.headTx c (paramList n a b d e) k) = 0) :=
    frameEffect_tx_of_sum hc hn hsum s
  refine ⟨fun h => hsend 0 (by decide) ?_, fun h => hsend 1 (by decide) ?_, fun h => hsend 2 (by decide) ?_,
    fun h => hsend 3 (by decide) ?_, fun h => hsend 4 (by decide) ?_⟩
  all_goals simpa [wireFrame, paramList, Config.headTx, ← BitVec.add_assoc] using h

/-! ### Refusals -/

/-- A frame valid for a command byte is the one the encoder builds of that byte and the frame's data (R93, R100). -/
theorem eq_buildFrame_of_validFrameFor {f : List Byte} {c : Byte} (h : validFrameFor f c = true) :
    ∃ ps : List Byte, ps.length ≤ 4 ∧ f = buildFrame c ps := by
  obtain ⟨hvalid, hcmd⟩ := (validFrameFor_iff f c).1 h
  obtain ⟨hmin, hmax, hhead, hlen, hsum⟩ := (validFrame_iff f).1 hvalid
  match f, hmin with
  | h :: l :: c' :: x :: rest, _ =>
    obtain rfl : h = Config.headTx := Option.some.inj hhead
    obtain rfl : c' = c := Option.some.inj hcmd
    rw [eq_wireFrame_of_length (Option.some.inj hlen)] at hsum ⊢
    refine ⟨(x :: rest).dropLast, ?_, ?_⟩
    · simp only [List.length_cons, List.length_dropLast] at hmax ⊢
      omega
    · rw [buildFrame_eq_wireFrame, ← (sum8_wireFrame_eq_zero_iff ..).1 ((checkOk_iff _).1 hsum)]

/-- Each command code has its fixed frame (R66, R70). -/
theorem fixedFrame_of_mem {c : Byte} (h : c ∈ commandCodes) : ∃ i, fixedFrame c = .ok i := by
  simp only [commandCodes, List.mem_cons, List.not_mem_nil, or_false] at h
  rcases h with rfl | rfl | rfl | rfl | rfl | rfl
  all_goals exact ⟨_, rfl⟩

/-- On the TX side every frame that the encoder builds has a row (R69, R70, R100). -/
theorem decodeFrame_buildFrame {c : Byte} (hc : c ∈ commandCodes) {ps : List Byte} (hn : ps.length ≤ 4) :
    ∃ i, decodeFrame .tx (buildFrame c ps) = .ok i := by
  have hrow : decodeFrame .tx (buildFrame c ps) = decodeBody .tx c ps (csum8 (frameBody c ps)) :=
    decodeFrame_wireFrame .tx c _ hn
  have hsent := sentFrame_of_frameOk (frameOk_csum8 hc ps)
  rw [hrow]
  match ps, hn with
  | [], _ =>
    obtain ⟨i, hi⟩ := fixedFrame_of_mem hc
    exact ⟨i, (hsent _).trans hi⟩
  | [_], _ => exact ⟨_, hsent _⟩
  | [_, _], _ => exact ⟨_, hsent _⟩
  | [_, _, _], _ => exact ⟨_, hsent _⟩
  | [_, _, _, _], _ => exact ⟨_, hsent _⟩

/-- Every instruction the decoder answers is well formed. -/
theorem decode_wellFormed {f : Fetch} {i : Instr} (h : decode f = .ok i) : i.wellFormed = true := by
  cases f with
  | word w =>
    obtain rfl : decodeWord w = i := Except.ok.inj h
    unfold decodeWord
    split <;> rfl
  | frame dir bytes =>
    obtain ⟨hwf, -⟩ := encodeOfDecodedFrameIsSame dir bytes i h
    exact hwf

theorem frameEffect_not_refused {dir : Dir} {c : Byte} {ds : List Byte} {k : Byte} (hok : frameOk dir c ds k = true)
    (s : State) (r : Refusal) : frameEffect dir c ds k s ≠ .refused r := by
  cases dir with
  | tx =>
    rw [frameEffect_tx_of_frameOk hok]
    nofun
  | rx => exact outcome_not_refused

/-- A well-formed instruction has an effect (log 9). -/
theorem exec_not_refused {i : Instr} (h : i.wellFormed = true) (s : State) (r : Refusal) : exec i s ≠ .refused r := by
  cases i with
  | frameLen1 dir c k =>
    obtain rfl : dir = .rx := by simpa [Instr.wellFormed] using h
    exact frameEffect_not_refused (dir := .rx) rfl s r
  | frameLen2 dir c a k => exact frameEffect_not_refused h s r
  | frameLen3 dir c a b k => exact frameEffect_not_refused h s r
  | frameLen4 dir c a b d k => exact frameEffect_not_refused h s r
  | frameLen5 dir c a b d e k =>
    obtain ⟨hok, -⟩ := Bool.and_eq_true_iff.1 h
    exact frameEffect_not_refused hok s r
  | frameRspMeasurement a b d e k => exact outcome_not_refused
  | _ => nofun

/-- What is refused of what an input brings: bytes on the TX side that are no row of the table. -/
theorem runFetch_refused {f : Fetch} {s : State} {r : Refusal} (h : runFetch f s = .refused r) :
    r = .neverTransmitted ∧ ∃ bytes x, f = .frame .tx bytes ∧ decodeFrame .tx bytes = .error x := by
  unfold runFetch at h
  split at h
  · next i hi => exact absurd h (exec_not_refused (decode_wellFormed hi) s r)
  · next x hx =>
    unfold undecoded at h
    split at h
    · exact absurd h outcome_not_refused
    · next bytes =>
      injection h with h
      exact ⟨h.symm, bytes, x, rfl, hx⟩
    · cases h

theorem engineStep_not_refused (s : State) (r : Refusal) : engineStep s ≠ .refused r := by
  unfold engineStep
  split_ifs
  · exact outcome_not_refused
  · exact outcome_not_refused
  · nofun

/-- Only what comes by the port or the link can be refused. -/
theorem step_refused {s : State} {r : Refusal} (h : step s = .refused r) :
    ∃ f rest, s.inputs = eventOf f :: rest ∧ runFetch f (dropInput s) = .refused r := by
  unfold step at h
  split at h
  · exact absurd h (engineStep_not_refused s r)
  · exact absurd h (engineStep_not_refused _ r)
  · split at h
    · exact absurd h (engineStep_not_refused s r)
    · cases h
  · next w rest hin => exact ⟨.word w, rest, hin, h⟩
  · next dir bytes rest hin => exact ⟨.frame dir bytes, rest, hin, h⟩
  · cases h
  · cases h

/-- Settles O33: the refused bytes do not decode on the TX side, where every valid frame for a command code does. -/
theorem onlyForeignTxBytesAreRefused : Obligations.OnlyForeignTxBytesAreRefused := by
  intro s r h
  obtain ⟨f, rest, hin, hrun⟩ := step_refused h
  obtain ⟨hr, bytes, x, rfl, hx⟩ := runFetch_refused hrun
  refine ⟨hr, bytes, rest, hin, ?_⟩
  rintro ⟨c, hc, hvalid⟩
  obtain ⟨ps, hn, rfl⟩ := eq_buildFrame_of_validFrameFor hvalid
  obtain ⟨i, hi⟩ := decodeFrame_buildFrame hc hn
  cases hx.symm.trans hi

end Sys2Proof.Machine
end

section
/-!
The start of RECV and the poll steps of a read, parser state by parser state (spec/42_parser.md R120 to R132).
-/

namespace Sys2Proof.Machine

/-! ### The start of RECV -/

/-- A RECV of a command code between operations starts a read (R121). -/
theorem exec_recv_of_legal {s : State} {c : Byte} (hidle : s.busy = false) (hc : isCommand c = true) (b : Half) :
    exec (.recv c b) s = .next (startRead c b (prologue Config.opRecv s)) := by
  rw [exec, execRecv, whenIdle_of_idle _ hidle, if_pos (by exact hc)]

/-- A RECV of another command byte is refused as a reserved code is, with the code of RECV (R73, R120). -/
theorem exec_recv_of_illegal {c : Byte} (hc : isCommand c = false) (b : Half) (s : State) :
    exec (.recv c b) s = refuseReserved Config.opRecv s := by
  simp only [exec, execRecv, recvLegal, hc, Bool.false_eq_true, if_false, refuseReserved]

/-- Settles O5: the prologue, then the registers of the read. -/
theorem recvStartsRead : Obligations.RecvStartsRead := by
  intro s c b hidle hc
  exact exec_recv_of_legal hidle ((isCommand_iff c).2 hc) b

/-- Settles O6: a refusal as that of a reserved code. -/
theorem illegalRecvIsRefused : Obligations.IllegalRecvIsRefused := by
  intro s c b hidle hc
  have hillegal : isCommand c = false := Bool.eq_false_iff.2 fun h => hc ((isCommand_iff c).1 h)
  exact ⟨.startFrame, (exec_recv_of_illegal hillegal b s).trans (refuseReserved_of_idle hidle _)⟩

/-! ### What a byte does in each parser state -/

theorem takeByte_hunt_stray {b : Byte} {s : State} (hp : s.pstate = .hunt) (hb : b ≠ Config.head) :
    takeByte b s = .ok s := by
  simp only [takeByte, hp, takeHunt, if_neg hb]

theorem takeByte_hunt_head {s : State} (hp : s.pstate = .hunt) :
    takeByte Config.head s =
      .ok { s with buf := cellPut s.buf 0 Config.head, sum := Config.head, idx := 1, pstate := .len } := by
  simp only [takeByte, hp, takeHunt, if_true, bufWrite_of_lt (show 0 < Config.maxFrame by decide)]
  rfl

theorem takeByte_len_illegal {b : Byte} {s : State} (hp : s.pstate = .len) (hb : lenOk b = false) :
    takeByte b s = .ok (failCommit .length s) := by
  simp only [takeByte, hp, takeLen, hb, Bool.false_eq_true, if_false]

theorem takeByte_len_legal {b : Byte} {s : State} (hp : s.pstate = .len) (hb : lenOk b = true) :
    takeByte b s =
      .ok { s with buf := cellPut s.buf 1 b, len := b, sum := s.sum + b, idx := 2, pstate := .cmd } := by
  simp only [takeByte, hp, takeLen, hb, if_true, bufWrite_of_lt (show 1 < Config.maxFrame by decide)]
  rfl

theorem takeByte_cmd {b : Byte} {s : State} (hp : s.pstate = .cmd) :
    takeByte b s =
      .ok { s with
        buf := cellPut s.buf 2 b, sum := s.sum + b, idx := 3, pstate := if s.len = 1 then .csum else .data } := by
  simp only [takeByte, hp, takeCmd, bufWrite_of_lt (show 2 < Config.maxFrame by decide)]
  rfl

theorem takeByte_data_of_lt {b : Byte} {s : State} (hp : s.pstate = .data) (hi : s.idx.toNat < Config.maxFrame) :
    takeByte b s =
      .ok { s with
        buf := cellPut s.buf s.idx.toNat b, sum := s.sum + b, idx := s.idx + 1
        pstate := if (s.idx + 1).toNat = s.len.toNat + 2 then .csum else .data } := by
  simp only [takeByte, hp, takeData, bufWrite_of_lt hi]
  rfl

theorem takeByte_csum_of_lt {b : Byte} {s : State} (hp : s.pstate = .csum) (hi : s.idx.toNat < Config.maxFrame) :
    takeByte b s = .ok (endOfFrame b { s with buf := cellPut s.buf s.idx.toNat b }) := by
  simp only [takeByte, hp, takeCsum, bufWrite_of_lt hi]
  rfl

/-! ### The step of a read -/

section
variable {s : State} (hin : s.inputs = []) (hp : s.pstate ≠ .idle)
include hin hp

theorem step_exhausted (hb : s.budget = 0) : step s = .next (exhausted s) := by
  rw [step_reading hin hp, pollStep, if_pos hb, outcome_ok]

theorem step_empty_poll (hb : s.budget ≠ 0) (ha : s.answer 0 = none) : step s = .next (chargePoll s) := by
  rw [step_reading hin hp, pollStep, if_neg hb, ha]
  rfl

/-- A byte that a poll brings is taken in the step of the poll (R122). -/
theorem step_of_byte {b : Byte} {t : State} (hb : s.budget ≠ 0) (ha : s.answer 0 = some b)
    (ht : takeByte b (chargePoll s) = .ok t) : step s = .next t := by
  rw [step_reading hin hp, pollStep, if_neg hb, ha]
  exact congrArg outcome ht

end

/-- Settles O10: the poll is charged, and nothing is taken. -/
theorem emptyPollChangesOnlyBudget : Obligations.EmptyPollChangesOnlyBudget := fun _ hin hp hb ha =>
  step_empty_poll hin hp hb ha

/-- Settles O17: the failure commit, with the cause by parser state. -/
theorem exhaustedBudgetFails : Obligations.ExhaustedBudgetFails := fun _ hin hp hb =>
  step_exhausted hin hp hb

/-- Settles O11: a byte other than the head is dropped once its poll is charged. -/
theorem strayByteIsDropped : Obligations.StrayByteIsDropped := by
  intro s b hin hp hb ha hne
  exact step_of_byte hin (by simp [hp]) hb ha (takeByte_hunt_stray hp hne)

/-- Settles O12: the buffer after the head byte is the old one with `buf[0]` written. -/
theorem headByteBeginsCandidate : Obligations.HeadByteBeginsCandidate := by
  intro s hw hin hp hb ha
  exact ⟨cellPut s.buf 0 0x40, bufAt_put hw 0 _, step_of_byte hin (by simp [hp]) hb ha (takeByte_hunt_head hp)⟩

/-- Settles O13: the two ranges of the statement are those that `lenOk` tells apart. -/
theorem lengthByteIsTakenOrFails : Obligations.LengthByteIsTakenOrFails := by
  intro s b hw hin hp hb ha
  have hreading : s.pstate ≠ .idle := by simp [hp]
  refine ⟨fun hbad => ?_, fun hgood => ?_⟩
  · have hillegal : lenOk b = false := by
      rw [Bool.eq_false_iff, ne_eq, lenOk_iff]
      omega
    exact step_of_byte hin hreading hb ha (takeByte_len_illegal hp hillegal)
  · exact ⟨cellPut s.buf 1 b, bufAt_put hw 1 b,
      step_of_byte hin hreading hb ha (takeByte_len_legal hp ((lenOk_iff b).2 hgood))⟩

/-- Settles O14: the next state asks for the length, not for the byte. -/
theorem commandByteIsStored : Obligations.CommandByteIsStored := by
  intro s b hw hin hp hb ha
  exact ⟨cellPut s.buf 2 b, bufAt_put hw 2 b, step_of_byte hin (by simp [hp]) hb ha (takeByte_cmd hp)⟩

/-- Settles O15: below 8 the addition to `idx` carries nothing out. -/
theorem dataByteIsStored : Obligations.DataByteIsStored := by
  intro s b hw hin hp hi hb ha
  have hnext : (s.idx + 1).toNat = s.idx.toNat + 1 := BitVec.toNat_add_of_lt (by simp; omega)
  refine ⟨cellPut s.buf s.idx.toNat b, bufAt_put hw _ b, ?_⟩
  rw [← hnext]
  exact step_of_byte hin (by simp [hp]) hb ha (takeByte_data_of_lt hp hi)

/-! ### The checks at the end of a frame -/

theorem checksumGood_eq_false_iff (x b : Byte) : checksumGood x b = false ↔ x + b ≠ 0 := by
  simp [checksumGood, add8]

theorem checksumGood_eq_true_iff (x b : Byte) : checksumGood x b = true ↔ x + b = 0 := by
  simp [checksumGood, add8]

/-- The payload registers with the length byte compared as it stands (R136). -/
theorem payload_eq (s : State) :
    payload s =
      ⟨if 0 + 1 < s.len.toNat then s.bufAt 3 else 0, if 1 + 1 < s.len.toNat then s.bufAt 4 else 0,
        if 2 + 1 < s.len.toNat then s.bufAt 5 else 0, if 3 + 1 < s.len.toNat then s.bufAt 6 else 0⟩ := by
  simp only [payload, Nat.lt_sub_iff_add_lt]

/-- Settles O16: the checks in their order, each failure and each commit on the buffer with the checksum byte in it. -/
theorem checksumByteEndsRead : Obligations.ChecksumByteEndsRead := by
  intro s b hw hin hp hi hb ha
  refine ⟨cellPut s.buf s.idx.toNat b, bufAt_put hw _ b, ?_⟩
  have hstep := step_of_byte hin (by simp [hp]) hb ha (takeByte_csum_of_lt (s := chargePoll s) hp hi)
  refine hstep.trans (congrArg Host.Outcome.next ?_)
  rcases endOfFrame_cases b { chargePoll s with buf := cellPut s.buf s.idx.toNat b } with ⟨hsum, he⟩ | ⟨hsum, hcmd, he⟩ |
    ⟨hsum, hcmd, hop, hlen, he⟩ | ⟨hsum, hcmd, hop, he⟩ | ⟨hsum, hcmd, hop, hlen, he⟩
  all_goals
    refine he.trans (Eq.symm ?_)
    simp only [checksumGood_eq_false_iff, checksumGood_eq_true_iff] at hsum
  · exact if_pos hsum
  · exact (if_neg (not_not.2 hsum)).trans (if_pos hcmd)
  · exact (if_neg (not_not.2 hsum)).trans ((if_neg (not_not.2 hcmd)).trans (if_pos ⟨hop, hlen⟩))
  · rw [commitRecv, payload_eq]
    exact (if_neg (not_not.2 hsum)).trans ((if_neg (not_not.2 hcmd)).trans ((if_neg fun h => h.1 hop).trans (if_pos hop)))
  · exact (if_neg (not_not.2 hsum)).trans ((if_neg (not_not.2 hcmd)).trans ((if_neg fun h => h.2 hlen).trans (if_neg hop)))

/-! ### The transition table -/

/-- The edges of the transition table (R132), and the pairs of equal states. -/
def parserEdges : List (PState × PState) :=
  [(.idle, .idle), (.idle, .hunt), (.hunt, .hunt), (.hunt, .len), (.hunt, .idle), (.len, .len), (.len, .cmd),
    (.len, .idle), (.cmd, .cmd), (.cmd, .csum), (.cmd, .data), (.cmd, .idle), (.data, .data), (.data, .csum),
    (.data, .idle), (.csum, .csum), (.csum, .idle)]

theorem parserEdges_refl (p : PState) : (p, p) ∈ parserEdges := by cases p <;> decide

/-- From every state the read may end. -/
theorem parserEdges_idle (p : PState) : (p, .idle) ∈ parserEdges := by cases p <;> decide

/-- The checks end the read, whatever they come to (R130). -/
theorem endOfFrame_pstate (b : Byte) (s : State) : (endOfFrame b s).pstate = .idle :=
  (endOfFrame_readEnd (s := s) ⟨rfl, rfl, rfl⟩ rfl).pstate

theorem takeByte_edge {b : Byte} {s t : State} (h : takeByte b s = .ok t) : (s.pstate, t.pstate) ∈ parserEdges := by
  rcases takeByte_ok h with ⟨-, rfl⟩ | ⟨-, -, rfl⟩ | ⟨hp, -, rfl⟩ | ⟨-, -, rfl⟩ | ⟨hp, -, rfl⟩ | ⟨hp, rfl⟩ | ⟨hp, -, rfl⟩ |
    ⟨-, -, rfl⟩
  -- no read; a stray byte
  · exact parserEdges_refl _
  · exact parserEdges_refl _
  -- the head
  · simp [parserEdges, hp]
  -- the length byte, illegal and legal
  · exact parserEdges_idle _
  · simp [parserEdges, hp]
  -- the command byte; a data byte
  · split <;> simp [parserEdges, hp]
  · split <;> simp [parserEdges, hp]
  -- the checksum byte
  · rw [endOfFrame_pstate]
    exact parserEdges_idle _

theorem engineStep_edge {s t : State} (h : engineStep s = .next t) : (s.pstate, t.pstate) ∈ parserEdges := by
  rcases engineStep_next h with ⟨-, hq⟩ | ⟨hp, -, hq⟩ | ⟨-, -, rfl⟩
  · rcases pollStep_ok hq with ⟨-, rfl⟩ | ⟨-, -, rfl⟩ | ⟨-, b, -, hb⟩
    · exact parserEdges_idle _
    · exact parserEdges_refl _
    · exact takeByte_edge (s := chargePoll s) hb
  · rcases writeStep_ok hq with ⟨-, -, rfl⟩ | ⟨-, -, rfl⟩ | ⟨-, -, rfl⟩
    · exact parserEdges_refl _
    · exact parserEdges_refl _
    · simp [parserEdges, hp]
  · exact parserEdges_refl _

/-- Settles O18: with no input left the step is the engine's own. -/
theorem parserFollowsTransitionTable : Obligations.ParserFollowsTransitionTable := by
  intro s t hin h
  exact engineStep_edge ((step_alone hin).symm.trans h)

end Sys2Proof.Machine
end

section
/-!
The closed form of a read (spec/42_parser.md R135): what it does with one answer, that it does not depend on where the
answers are counted from, and that an answer None costs one poll.
-/

namespace Sys2Proof.Machine

/-- One byte in the loop of R135: the stage after it, or the result. -/
def parseByte (e : Byte) (m : Bool) (b : Byte) : ParseStage → ParseStage ⊕ ReadResult
  | .hunt => .inl (if b = Config.head then .len else .hunt)
  | .len => if lenOk b then .inl (.body [Config.head, b]) else .inr (.fail .length)
  | .body f =>
    if f.length + 1 = (f[1]?.getD 0).toNat + 3 then .inr (judge (f ++ [b]) e m) else .inl (.body (f ++ [b]))

section
variable {a : Nat → Option Byte} {e : Byte} {m : Bool} {left k : Nat} {st : ParseStage}

theorem parseFrom_none (h : a k = none) : parseFrom a e m (left + 1) k st = parseFrom a e m left (k + 1) st := by
  rw [parseFrom, h]

theorem parseFrom_byte {b : Byte} (h : a k = some b) :
    parseFrom a e m (left + 1) k st =
      (parseByte e m b st).elim (parseFrom a e m left (k + 1)) fun r => (r, k + 1) := by
  rw [parseFrom, h]
  cases st with
  | hunt => rfl
  | len =>
    simp only [parseByte]
    split <;> rfl
  | body f =>
    simp only [parseByte]
    split <;> rfl

/-- Each poll is one of those allowed (R139). -/
theorem parseFrom_polls_le : (parseFrom a e m left k st).2 ≤ k + left := by
  induction left generalizing k st with
  | zero => rfl
  | succ left ih =>
    rcases ha : a k with _ | b
    · have := ih (k := k + 1) (st := st)
      rw [parseFrom_none ha]
      omega
    · rw [parseFrom_byte ha]
      rcases parseByte e m b st with st' | r
      · have := ih (k := k + 1) (st := st')
        simp only [Sum.elim_inl]
        omega
      · simp only [Sum.elim_inr]
        omega

/-- Answers counted from one poll later give the same result with one poll more. -/
theorem parseFrom_succ {g : Nat → Option Byte} (h : ∀ i, k ≤ i → g (i + 1) = a i) :
    parseFrom g e m left (k + 1) st = ((parseFrom a e m left k st).1, (parseFrom a e m left k st).2 + 1) := by
  induction left generalizing k st with
  | zero => rfl
  | succ left ih =>
    have hg : g (k + 1) = a k := h k (Nat.le_refl k)
    have hnext : ∀ i, k + 1 ≤ i → g (i + 1) = a i := fun i hi => h i (Nat.le_of_succ_le hi)
    rcases ha : a k with _ | b
    · rw [parseFrom_none (hg.trans ha), parseFrom_none ha]
      exact ih hnext
    · rw [parseFrom_byte (hg.trans ha), parseFrom_byte ha]
      rcases parseByte e m b st with st' | r
      · exact ih hnext
      · rfl

end

/-- The answers `a` with a None put in front of answer number `j`. -/
def withGap (a : Nat → Option Byte) (j : Nat) (k : Nat) : Option Byte :=
  if k < j then a k else if k = j then none else a (k - 1)

/-- Up to the gap the two reads go alike; there one of them makes a poll more, and behind it they go alike again. -/
theorem parseFrom_withGap {a : Nat → Option Byte} {e : Byte} {m : Bool} {j left k : Nat} {st : ParseStage} (hk : k ≤ j)
    (hj : j ≤ k + left) : (parseFrom (withGap a j) e m (left + 1) k st).1 = (parseFrom a e m left k st).1 := by
  induction left generalizing k st with
  | zero =>
    obtain rfl : k = j := by omega
    rw [parseFrom_none (by simp [withGap])]
    rfl
  | succ left ih =>
    rcases Nat.lt_or_eq_of_le hk with hlt | rfl
    · have hg : withGap a j k = a k := if_pos hlt
      have hnext (st' : ParseStage) := ih (k := k + 1) (st := st') hlt (by omega)
      rcases ha : a k with _ | b
      · rw [parseFrom_none (hg.trans ha), parseFrom_none ha, hnext]
      · rw [parseFrom_byte (hg.trans ha), parseFrom_byte ha]
        rcases parseByte e m b st with st' | r
        · exact hnext st'
        · rfl
    · have hbehind : ∀ i, k ≤ i → withGap a k (i + 1) = a i := fun i hi => by
        rw [withGap, if_neg (by omega), if_neg (by omega), Nat.add_sub_cancel]
      rw [parseFrom_none (by simp [withGap]), parseFrom_succ hbehind]

/-- Settles O20: the gap lies among the polls of the read. -/
theorem gapCostsOnePollOnly : Obligations.GapCostsOnePollOnly := fun _ _ _ j _ hj =>
  parseFrom_withGap (Nat.zero_le j) (by omega)

end Sys2Proof.Machine
end

section
/-!
The byte-level machine computes the closed form of a read (spec/42_parser.md R134, R135): each parser state is a stage of
the closed form, each poll step a turn of its loop, and a commit leaves in the registers what the closed form answers.
-/

namespace Sys2Proof.Machine

/-! ### What a read leaves as it was -/

/-- What no poll step of a read changes (R122). -/
structure SameOperation (s t : State) : Prop where
  tx : t.tx = s.tx
  mode : t.mode = s.mode
  curOp : t.curOp = s.curOp
  phase : t.phase = s.phase
  expect : t.expect = s.expect
  readBudget : t.readBudget = s.readBudget
  rdata : t.rdata = s.rdata
  inputs : t.inputs = s.inputs

/-- Nor does a byte, once its poll has been charged, change the answers and the budget. -/
structure SameTransport (s t : State) : Prop extends SameOperation s t where
  rx : t.rx = s.rx
  polls : t.polls = s.polls
  budget : t.budget = s.budget

theorem SameOperation.refl (s : State) : SameOperation s s := ⟨rfl, rfl, rfl, rfl, rfl, rfl, rfl, rfl⟩

theorem SameOperation.trans {s t u : State} (h : SameOperation s t) (h' : SameOperation t u) : SameOperation s u :=
  ⟨h'.tx.trans h.tx, h'.mode.trans h.mode, h'.curOp.trans h.curOp, h'.phase.trans h.phase, h'.expect.trans h.expect,
    h'.readBudget.trans h.readBudget, h'.rdata.trans h.rdata, h'.inputs.trans h.inputs⟩

theorem SameTransport.trans {s t u : State} (h : SameTransport s t) (h' : SameTransport t u) : SameTransport s u :=
  ⟨h.toSameOperation.trans h'.toSameOperation, h'.rx.trans h.rx, h'.polls.trans h.polls, h'.budget.trans h.budget⟩

theorem chargePoll_sameOperation (s : State) : SameOperation s (chargePoll s) :=
  ⟨rfl, rfl, rfl, rfl, rfl, rfl, rfl, rfl⟩

/-- The checks at the end of a frame change the result registers, the readings and `status` only, and end the read (R130,
R136, R152, R186). -/
theorem endOfFrame_frame (b : Byte) (s : State) :
    SameTransport s (endOfFrame b s) ∧ (endOfFrame b s).busy = false ∧ (endOfFrame b s).idx = s.idx ∧
      (endOfFrame b s).len = s.len ∧ (endOfFrame b s).buf = s.buf := by
  obtain ⟨-, he⟩ | ⟨-, -, he⟩ | ⟨-, -, -, -, he⟩ | ⟨-, -, -, he⟩ | ⟨-, -, -, -, he⟩ := endOfFrame_cases b s <;> rw [he] <;>
    exact ⟨⟨⟨rfl, rfl, rfl, rfl, rfl, rfl, rfl, rfl⟩, rfl, rfl, rfl⟩, rfl, rfl, rfl, rfl⟩

theorem takeByte_sameTransport {b : Byte} {s t : State} (h : takeByte b s = .ok t) : SameTransport s t := by
  rcases takeByte_ok h with ⟨-, rfl⟩ | ⟨-, -, rfl⟩ | ⟨-, -, rfl⟩ | ⟨-, -, rfl⟩ | ⟨-, -, rfl⟩ | ⟨-, rfl⟩ | ⟨-, -, rfl⟩ |
    ⟨-, -, rfl⟩
  -- before the checksum byte, the parser's registers or a failure; then the verdict on the frame
  iterate 7 exact ⟨⟨rfl, rfl, rfl, rfl, rfl, rfl, rfl, rfl⟩, rfl, rfl, rfl⟩
  obtain ⟨hsame, -⟩ := endOfFrame_frame b { s with buf := cellPut s.buf s.idx.toNat b }
  exact .trans (t := { s with buf := cellPut s.buf s.idx.toNat b })
    ⟨⟨rfl, rfl, rfl, rfl, rfl, rfl, rfl, rfl⟩, rfl, rfl, rfl⟩ hsame

theorem exhausted_sameOperation (s : State) : SameOperation s (exhausted s) :=
  ⟨rfl, rfl, rfl, rfl, rfl, rfl, rfl, rfl⟩

theorem pollStep_sameOperation {s t : State} (h : pollStep s = .ok t) : SameOperation s t := by
  rcases pollStep_ok h with ⟨-, rfl⟩ | ⟨-, -, rfl⟩ | ⟨-, b, -, ht⟩
  · exact exhausted_sameOperation s
  · exact chargePoll_sameOperation s
  · exact (chargePoll_sameOperation s).trans (takeByte_sameTransport ht).toSameOperation

/-- The answers to come depend on the transport's record only. -/
theorem answer_congr {s t : State} (hrx : t.rx = s.rx) (hpolls : t.polls = s.polls) : t.answer = s.answer := by
  funext j
  rw [State.answer, State.answer, hrx, hpolls]

/-! ### The verdict on a frame -/

/-- What a read of `s` that came to a result leaves in the registers (R135, R136, R152, R186). -/
def Reported (s t : State) : ReadResult → Prop
  | .ok d =>
    t.status = 0x00 ∧ t.resOk = true ∧ t.resCause = .none ∧ t.resN.toNat = d.length ∧
    t.resData = ⟨d.getD 0 0, d.getD 1 0, d.getD 2 0, d.getD 3 0⟩ ∧
    (s.curOp = 0x2 → t.pm25 = s.pm25 ∧ t.pm10 = s.pm10) ∧
    (s.curOp ≠ 0x2 →
      t.pm25.toNat = (d.getD 0 0).toNat * 256 + (d.getD 1 0).toNat ∧
      t.pm10.toNat = (d.getD 2 0).toNat * 256 + (d.getD 3 0).toNat)
  | .fail c =>
    t.status = 0x01 ∧ t.resOk = false ∧ t.resCause = c ∧ t.resN = 0 ∧ t.resData = ⟨0, 0, 0, 0⟩ ∧
    t.pm25 = s.pm25 ∧ t.pm10 = s.pm10

theorem reported_failCommit (c : Cause) (s : State) : Reported s (failCommit c s) (.fail c) :=
  ⟨rfl, rfl, rfl, rfl, rfl, rfl, rfl⟩

/-- A report speaks of the operation and the readings before the read only. -/
theorem Reported.of_same {s t u : State} {r : ReadResult} (h : Reported u t r) (hr : SameReadings s u)
    (hop : u.curOp = s.curOp) : Reported s t r := by
  cases r <;> simpa only [Reported, hr.pm25, hr.pm10, hop] using h

/-- The data bytes of the frame in the buffer (R60). -/
def State.frameData (s : State) : List Byte := (List.range (s.len.toNat - 1)).map fun i => s.bufAt (3 + i)

theorem frameData_length (s : State) : s.frameData.length = s.len.toNat - 1 := by
  rw [State.frameData, List.length_map, List.length_range]

theorem frameData_getD (s : State) (i : Nat) :
    s.frameData.getD i 0 = if i < s.len.toNat - 1 then s.bufAt (3 + i) else 0 := by
  rw [State.frameData, List.getD_eq_getElem?_getD, List.getElem?_map]
  split
  · next hi => rw [List.getElem?_range hi]; rfl
  · next hi => rw [List.getElem?_eq_none (by simpa using hi)]; rfl

/-- The payload registers are the data bytes, with zeros above (R136). -/
theorem payload_eq_frameData (s : State) :
    payload s = ⟨s.frameData.getD 0 0, s.frameData.getD 1 0, s.frameData.getD 2 0, s.frameData.getD 3 0⟩ := by
  simp only [frameData_getD]
  rfl

/-- The verdict of R135 on the frame in the buffer, read off the buffer. -/
theorem judge_frame {s : State} (hlen : LengthTaken s) (e : Byte) (m : Bool) :
    judge s.frame e m =
      if checkOk s.frame = false then .fail .checksum
      else if s.bufAt 2 ≠ e then .fail .command
      else if m = true ∧ s.len ≠ Config.lenMeas then .fail .length
      else .ok s.frameData := by
  obtain ⟨hok, hat⟩ := hlen
  obtain ⟨hlo, -⟩ := (lenOk_iff _).1 hok
  have hone : s.frame[1]? = some s.len := by rw [frame_getElem? s (by omega), hat]
  have htwo : s.frame[2]? = some (s.bufAt 2) := frame_getElem? s (by omega)
  simp only [judge, hone, htwo, frame_data hlo, checkOk, beq_eq_false_iff_ne, ne_eq, Option.some.injEq]
  rfl

/-- The commits leave in the registers what the closed form answers for the frame in the buffer (R130, R135). -/
theorem endOfFrame_reported {s : State} {b : Byte} {f : List Byte} (hlen : LengthTaken s) (hframe : s.frame = f ++ [b])
    (hf : s.sum = sum8 f) : Reported s (endOfFrame b s) (judge s.frame s.expect (s.curOp != Config.opRecv)) := by
  have hgood : checkOk s.frame = checksumGood s.sum b := by rw [hframe, hf, checksumGood_iff]
  have hn := resN_toNat hlen.1
  rw [judge_frame hlen, hgood]
  rcases endOfFrame_cases b s with ⟨hsum, he⟩ | ⟨hsum, hcmd, he⟩ | ⟨hsum, hcmd, hop, hmeas, he⟩ | ⟨hsum, hcmd, hop, he⟩ |
    ⟨hsum, hcmd, hop, hmeas, he⟩ <;> rw [he]
  -- the three failures
  · simpa [hsum] using reported_failCommit .checksum s
  · simpa [hsum, hcmd] using reported_failCommit .command s
  · simpa [hsum, hcmd, hop, hmeas] using reported_failCommit .length s
  -- the commit of RECV
  · simp only [hsum, hcmd, hop, bne_self_eq_false, Bool.true_eq_false, Bool.false_eq_true, ne_eq, not_true_eq_false,
      false_and, if_false]
    exact ⟨rfl, rfl, rfl, hn.trans (frameData_length s).symm, payload_eq_frameData s, fun _ => ⟨rfl, rfl⟩, absurd hop⟩
  -- the commit of READPM and INIT
  · simp only [hsum, hcmd, hmeas, Bool.true_eq_false, ne_eq, not_true_eq_false, and_false, if_false]
    have hdata := (payload_of_lenMeas hmeas).symm.trans (payload_eq_frameData s)
    obtain ⟨h0, h1, h2, h3⟩ := ResData.mk.inj hdata
    refine ⟨rfl, rfl, rfl, by rw [frameData_length, hmeas]; rfl, hdata, fun h => absurd h hop, fun _ => ?_⟩
    rw [← h0, ← h1, ← h2, ← h3]
    exact ⟨be16_toNat _ _, be16_toNat _ _⟩

/-! ### One byte -/

/-- The stage of the closed form that a read has come to (R135). -/
def State.stage (s : State) : ParseStage :=
  match s.pstate with
  | .idle | .hunt => .hunt
  | .len => .len
  | .cmd | .data | .csum => .body (taken s)

theorem stage_hunt {s : State} (h : s.pstate = .hunt) : s.stage = .hunt := by
  simp only [State.stage, h]

theorem stage_len {s : State} (h : s.pstate = .len) : s.stage = .len := by
  simp only [State.stage, h]

theorem stage_body {s : State} (h : s.pstate = .cmd ∨ s.pstate = .data ∨ s.pstate = .csum) :
    s.stage = .body (taken s) := by
  rcases h with h | h | h <;> simp only [State.stage, h]

theorem stage_eq_hunt_iff {s : State} (h : s.pstate ≠ .idle) : s.stage = .hunt ↔ s.pstate = .hunt := by
  unfold State.stage
  split <;> simp_all

/-- A byte stored at `idx` makes the candidate one byte longer (R126 to R128). -/
theorem taken_of_put {s t : State} {b : Byte} (hw : Memory.wf s.buf = true) (hbuf : t.buf = cellPut s.buf s.idx.toNat b)
    (hidx : t.idx.toNat = s.idx.toNat + 1) : taken t = taken s ++ [b] := by
  rw [taken, hidx, range_bufAt_of_put hw hbuf]
  rfl

/-- Behind the length byte the closed form asks for the checksum byte where the machine does (R128). -/
theorem parseByte_body {s : State} {e : Byte} {m : Bool} (b : Byte) (hlen : LengthTaken s) (hidx : 2 ≤ s.idx.toNat) :
    parseByte e m b (.body (taken s)) =
      if s.idx.toNat = s.len.toNat + 2 then .inr (judge (taken s ++ [b]) e m) else .inl (.body (taken s ++ [b])) := by
  obtain ⟨-, hat⟩ := hlen
  have hsize : (taken s).length = s.idx.toNat := by rw [taken, List.length_map, List.length_range]
  have hone : (taken s)[1]? = some s.len := by
    rw [taken, List.getElem?_map, List.getElem?_range (by omega), Option.map_some, hat]
  rw [parseByte, hsize, hone]
  exact if_congr (by simp) rfl rfl

/-- Before the checksum byte a byte stored makes the body longer in both (R127, R128). -/
theorem parseByte_stage_of_put {s t : State} {b : Byte} (hw : Memory.wf s.buf = true)
    (hp : s.pstate = .cmd ∨ s.pstate = .data ∨ s.pstate = .csum) (hlen : LengthTaken s) (hidx : 2 ≤ s.idx.toNat)
    (hlast : s.idx.toNat ≠ s.len.toNat + 2) (hp' : t.pstate = .cmd ∨ t.pstate = .data ∨ t.pstate = .csum)
    (hbuf : t.buf = cellPut s.buf s.idx.toNat b) (hnext : t.idx.toNat = s.idx.toNat + 1) (e : Byte) (m : Bool) :
    parseByte e m b s.stage = .inl t.stage := by
  rw [stage_body hp, stage_body hp', taken_of_put hw hbuf hnext, parseByte_body b hlen hidx, if_neg hlast]

/-- The checksum byte ends the read with the verdict on the candidate (R129, R130, R135). -/
theorem atChecks_reported {s : State} (h : Inv s) (hp : s.pstate = .csum) (b : Byte) :
    Reported s (endOfFrame b (s.atChecks b)) (judge (taken s ++ [b]) s.expect (s.curOp != Config.opRecv)) := by
  obtain ⟨-, -, -, hsum⟩ := (parserInv_csum_iff hp).1 h.parser
  obtain ⟨-, hlen⟩ := atChecks_candidate h hp b
  have hframe := atChecks_frame h hp b
  rw [← hframe]
  exact (endOfFrame_reported hlen hframe hsum).of_same (s := s) ⟨rfl, rfl, rfl⟩ rfl

/-- A byte of a read is a byte of the closed form: the stage it leads to, or the result it ends with (R124 to R130,
R135). -/
theorem takeByte_parsed {s t : State} {b : Byte} (h : Inv s) (hp : s.pstate ≠ .idle)
    (ht : takeByte b (chargePoll s) = .ok t) :
    (parseByte s.expect (s.curOp != Config.opRecv) b s.stage = .inl t.stage ∧ t.pstate ≠ .idle ∧ SameReadings s t) ∨
    ∃ r, parseByte s.expect (s.curOp != Config.opRecv) b s.stage = .inr r ∧ t.pstate = .idle ∧ t.busy = false ∧
      Reported s t r := by
  have hw := h.bufWf
  rcases takeByte_ok ht with ⟨hp', -⟩ | ⟨hp', hb, rfl⟩ | ⟨hp', rfl, rfl⟩ | ⟨hp', hb, rfl⟩ | ⟨hp', hb, rfl⟩ | ⟨hp', rfl⟩ |
    ⟨hp', hi, rfl⟩ | ⟨hp', -, -⟩ <;> change s.pstate = _ at hp'
  -- no read
  · exact absurd hp' hp
  -- a stray byte; the head
  · refine .inl ⟨?_, hp, rfl, rfl, rfl⟩
    rw [stage_hunt hp', stage_hunt (s := chargePoll s) hp', parseByte, if_neg hb]
  · refine .inl ⟨?_, by simp, rfl, rfl, rfl⟩
    rw [stage_hunt hp', parseByte, if_pos rfl]
    rfl
  -- the length byte, illegal and legal
  · refine .inr ⟨.fail .length, ?_, rfl, rfl, reported_failCommit .length s⟩
    rw [stage_len hp', parseByte, hb]
    rfl
  · obtain ⟨hidx, hhead, -⟩ := (parserInv_len_iff hp').1 h.parser
    refine .inl ⟨?_, by simp, rfl, rfl, rfl⟩
    have htaken : taken s = [Config.head] := by simp [taken, hidx, hhead]
    rw [stage_len hp', stage_body (.inl rfl), taken_of_put (s := s) (b := b) hw (by simp [hidx]) (by simp [hidx]), htaken,
      parseByte, if_pos hb]
    rfl
  -- the command byte
  · obtain ⟨hidx, hlen, -⟩ := (parserInv_cmd_iff hp').1 h.parser
    obtain ⟨hlo, -⟩ := (lenOk_iff _).1 hlen.1
    have hidx' : s.idx.toNat = 2 := by rw [hidx]; rfl
    refine .inl ⟨?_, by dsimp only; split <;> simp, rfl, rfl, rfl⟩
    exact parseByte_stage_of_put hw (.inl hp') hlen (by omega) (by omega) (.inr (by dsimp only; split <;> simp))
      (by rw [hidx']; rfl) (by rw [hidx']; rfl) _ _
  -- a data byte
  · obtain ⟨hlo, hhi, hlen, -⟩ := (parserInv_data_iff hp').1 h.parser
    have hnext : (s.idx + 1).toNat = s.idx.toNat + 1 :=
      BitVec.toNat_add_of_lt (Nat.lt_trans (Nat.add_lt_add_right hi 1) (by decide))
    refine .inl ⟨?_, by dsimp only; split <;> simp, rfl, rfl, rfl⟩
    exact parseByte_stage_of_put hw (.inr (.inl hp')) hlen (by omega) (by omega) (.inr (by dsimp only; split <;> simp))
      rfl hnext _ _
  -- the checksum byte
  · obtain ⟨hidx, hlen, -⟩ := (parserInv_csum_iff hp').1 h.parser
    obtain rfl := Except.ok.inj ((takeByte_csum h hp' b).symm.trans ht)
    obtain ⟨-, hbusy, -⟩ := endOfFrame_frame b (s.atChecks b)
    refine .inr ⟨_, ?_, endOfFrame_pstate b _, hbusy, atChecks_reported h hp' b⟩
    rw [stage_body (.inr (.inr hp')), parseByte_body b hlen (by omega), if_pos hidx]

/-! ### One poll -/

/-- The read of `s` has ended in `t` with the result and the number of polls `r`. -/
structure ReadEndsAs (s : State) (r : ReadResult × Nat) (t : State) : Prop where
  busy : t.busy = false
  pstate : t.pstate = .idle
  polls : t.polls = s.polls + r.2
  rx : t.rx = s.rx.drop r.2
  same : SameOperation s t
  reported : Reported s t r.1

/-- A poll after which the read goes on. -/
structure PolledOn (s t : State) : Prop where
  pstate : t.pstate ≠ .idle
  polls : t.polls = s.polls + 1
  rx : t.rx = s.rx.drop 1
  budget : t.budget = s.budget - 1
  same : SameOperation s t
  readings : SameReadings s t

/-- A poll more in front of a read. -/
theorem ReadEndsAs.of_poll {s u t : State} {r : ReadResult × Nat} (h : ReadEndsAs u r t) (hu : PolledOn s u) :
    ReadEndsAs s (r.1, r.2 + 1) t where
  busy := h.busy
  pstate := h.pstate
  polls := by rw [h.polls, hu.polls, Nat.add_assoc, Nat.add_comm 1]
  rx := by rw [h.rx, hu.rx, List.drop_drop, Nat.add_comm 1]
  same := hu.same.trans h.same
  reported := h.reported.of_same hu.readings hu.same.curOp

/-- The closed form of a read in progress: what it comes to from the stage of `s` with `n` polls left (R135). -/
def State.parsed (s : State) (n : Nat) : ReadResult × Nat :=
  parseFrom s.answer s.expect (s.curOp != Config.opRecv) n 0 s.stage

/-- Behind a poll the closed form goes on from the answers left. -/
theorem parseFrom_of_polledOn {s t : State} (h : PolledOn s t) (n : Nat) :
    parseFrom s.answer s.expect (s.curOp != Config.opRecv) n 1 t.stage = ((t.parsed n).1, (t.parsed n).2 + 1) := by
  have hanswer : t.answer = (chargePoll s).answer := answer_congr h.rx h.polls
  rw [State.parsed, h.same.expect, h.same.curOp]
  exact parseFrom_succ fun i _ => (congrFun hanswer i ▸ answer_chargePoll s i).symm

/-- A poll step is a turn of the loop of the closed form (R122 to R130, R135). -/
theorem pollStep_parsed {s t : State} (h : Inv s) (hp : s.pstate ≠ .idle) (hb : s.budget ≠ 0) (ht : pollStep s = .ok t)
    (n : Nat) :
    (PolledOn s t ∧ s.parsed (n + 1) = ((t.parsed n).1, (t.parsed n).2 + 1)) ∨ ReadEndsAs s (s.parsed (n + 1)) t := by
  rcases pollStep_ok ht with ⟨h0, -⟩ | ⟨-, ha, rfl⟩ | ⟨-, b, ha, htake⟩
  · exact absurd h0 hb
  · have hon : PolledOn s (chargePoll s) := ⟨hp, rfl, rfl, rfl, chargePoll_sameOperation s, rfl, rfl, rfl⟩
    exact .inl ⟨hon, (parseFrom_none ha).trans (parseFrom_of_polledOn hon n)⟩
  · obtain ⟨-, hrx, hpolls, hbudget⟩ := takeByte_sameTransport htake
    have hsame := pollStep_sameOperation ht
    rw [State.parsed, parseFrom_byte ha]
    rcases takeByte_parsed h hp htake with ⟨hparse, hp', hr⟩ | ⟨r, hparse, hp', hbusy, hrep⟩ <;> rw [hparse]
    · have hon : PolledOn s t := ⟨hp', hpolls, hrx, hbudget, hsame, hr⟩
      exact .inl ⟨hon, parseFrom_of_polledOn hon n⟩
    · exact .inr ⟨hbusy, hp', hpolls, hrx, hsame, hrep⟩

/-- With no budget left the closed form fails as the machine does (R131, R135). -/
theorem exhausted_parsed {s : State} (hp : s.pstate ≠ .idle) : ReadEndsAs s (s.parsed 0) (exhausted s) := by
  refine ⟨rfl, rfl, rfl, rfl, exhausted_sameOperation s, ?_⟩
  have hcause : (if s.stage = .hunt then Cause.timeout else .length) = if s.pstate = .hunt then .timeout else .length :=
    if_congr (stage_eq_hunt_iff hp) rfl rfl
  rw [State.parsed, parseFrom, hcause]
  exact reported_failCommit _ s

/-! ### The whole read -/

theorem exists_ok_of_ne_error {r : Except Fault State} (h : ∀ f, r ≠ .error f) : ∃ t, r = .ok t := by
  cases r with
  | ok t => exact ⟨t, rfl⟩
  | error f => exact absurd rfl (h f)

/-- A read in any parser state ends as the closed form says, within a step for each poll of its budget and one more (R135,
R139). -/
theorem read_ends_as_parsed (n : Nat) {s : State} (h : Inv s) (hin : s.inputs = []) (hp : s.pstate ≠ .idle)
    (hn : s.budget.toNat = n) :
    ∃ i t, i ≤ n + 1 ∧ runSteps i s = .next t ∧ Inv t ∧ ReadEndsAs s (s.parsed n) t := by
  induction n generalizing s with
  | zero =>
    have hstep := step_exhausted hin hp (BitVec.eq_of_toNat_eq hn)
    exact ⟨1, exhausted s, Nat.le_refl 1, runSteps_of_step hstep, step_inv h hstep, exhausted_parsed hp⟩
  | succ n ih =>
    have hb : s.budget ≠ 0 := by
      intro h0
      simp [h0] at hn
    obtain ⟨u, hu⟩ := exists_ok_of_ne_error (pollStep_no_error h)
    have hstep : step s = .next u := by rw [step_reading hin hp, hu, outcome_ok]
    have hinv := pollStep_inv h hu
    rcases pollStep_parsed h hp hb hu n with ⟨hon, hparsed⟩ | hend
    · have hleft : u.budget.toNat = n := by
        rw [hon.budget]
        bv_omega
      obtain ⟨i, t, hi, hrun, hinv', hend⟩ := ih hinv (hon.same.inputs.trans hin) hon.pstate hleft
      exact ⟨i + 1, t, Nat.succ_le_succ hi, (runSteps_of_step hstep).trans hrun, hinv', hparsed ▸ hend.of_poll hon⟩
    · exact ⟨1, u, by omega, runSteps_of_step hstep, hinv, hend⟩

/-- Settles O19: a read that hunts for its head is at the first stage of the closed form. -/
theorem byteMachineComputesClosedForm : Obligations.ByteMachineComputesClosedForm := by
  intro s h hin hp
  obtain ⟨n, t, hn, hrun, hinv, hend⟩ := read_ends_as_parsed _ h hin (by simp [hp]) rfl
  have hparse : s.parsed s.budget.toNat = parse s.answer s.expect s.budget.toNat (s.curOp != 0x2) := by
    rw [State.parsed, stage_hunt hp]
    rfl
  rw [hparse] at hend
  have hsame := hend.same
  exact ⟨n, t, hn, hrun, hend.busy, hend.pstate, hend.polls, hend.rx, hsame.tx, hsame.mode, hsame.curOp, hsame.phase,
    hsame.expect, hsame.readBudget, hsame.rdata, hsame.inputs.trans hin, hinv.bufWf, hend.reported⟩

/-- Settles O26: the closed form makes no more polls than the budget allows. -/
theorem readEndsWithinBudget : Obligations.ReadEndsWithinBudget := by
  intro s h hin hp
  obtain ⟨n, t, hn, hrun, -, hend⟩ := read_ends_as_parsed _ h hin hp rfl
  refine ⟨n, t, hn, hrun, hend.busy, hend.pstate, ?_⟩
  rw [hend.polls]
  exact Nat.add_le_add_left (parseFrom_polls_le.trans_eq (Nat.zero_add _)) _

end Sys2Proof.Machine
end

section
/-!
Bytes received, as polls (spec/20_memory.md R42, R43, spec/42_parser.md R122): a run of polls in one step is as many steps
of the engine, and it goes on until the read ends or nothing waits any more.
-/

namespace Sys2Proof.Machine

/-! ### A run of polls as steps -/

/-- A poll step that ends a read ends its operation with it (R151). -/
theorem pollStep_busy_of_ended {s t : State} (hp : s.pstate ≠ .idle) (h : pollStep s = .ok t) (hp' : t.pstate = .idle) :
    t.busy = false := by
  rcases pollStep_ok h with ⟨-, rfl⟩ | ⟨-, -, rfl⟩ | ⟨-, b, -, ht⟩
  · rfl
  · exact absurd hp' hp
  · rcases takeByte_ok ht with ⟨hp'', -⟩ | ⟨-, -, rfl⟩ | ⟨-, -, rfl⟩ | ⟨-, -, rfl⟩ | ⟨-, -, rfl⟩ | ⟨-, rfl⟩ | ⟨-, -, rfl⟩ |
      ⟨-, -, rfl⟩
    -- no read; a stray byte; the head; the length byte, illegal and legal
    · exact absurd hp'' hp
    · exact absurd hp' hp
    · cases hp'
    · rfl
    · cases hp'
    -- the command byte; a data byte; the checksum byte
    · dsimp only at hp'
      split at hp' <;> cases hp'
    · dsimp only at hp'
      split at hp' <;> cases hp'
    · obtain ⟨-, hbusy, -⟩ := endOfFrame_frame b
        { chargePoll s with buf := cellPut (chargePoll s).buf (chargePoll s).idx.toNat b }
      exact hbusy

/-- Between operations the engine stands still (R50, R194). -/
theorem runSteps_ended (n : Nat) {s : State} (hin : s.inputs = []) (hp : s.pstate = .idle) (hb : s.busy = false) :
    runSteps n s = .next s := by
  induction n with
  | zero => rfl
  | succ n ih =>
    have hstep : step s = .next s := by simp [step_alone hin, engineStep, hp, hb]
    rw [runSteps_of_step hstep, ih]

/-- A run of polls, one poll at a time (R122). -/
theorem pollMany_succ_ok {n : Nat} {s t : State} (h : pollMany (n + 1) s = .ok t) :
    (s.pstate = .idle ∧ t = s) ∨ (s.pstate ≠ .idle ∧ ∃ u, pollStep s = .ok u ∧ pollMany n u = .ok t) := by
  rw [pollMany] at h
  split at h
  · exact .inl ⟨‹_›, (Except.ok.inj h).symm⟩
  · split at h
    · exact .inr ⟨‹_›, _, ‹_›, h⟩
    · cases h

/-- With no input left, a run of polls is a run of steps; behind the end of the read the steps do nothing (R122, R151). -/
theorem runSteps_of_pollMany {n : Nat} {s t : State} (hin : s.inputs = []) (hb : s.pstate = .idle → s.busy = false)
    (h : pollMany n s = .ok t) : runSteps n s = .next t := by
  induction n generalizing s with
  | zero =>
    cases h
    rfl
  | succ n ih =>
    rcases pollMany_succ_ok h with ⟨hp, rfl⟩ | ⟨hp, u, hu, hrest⟩
    · exact runSteps_ended _ hin hp (hb hp)
    · have hstep : step s = .next u := by rw [step_reading hin hp, hu, outcome_ok]
      have hin' : u.inputs = [] := (pollStep_sameOperation hu).inputs.trans hin
      rw [runSteps_of_step hstep]
      exact ih hin' (pollStep_busy_of_ended hp hu) hrest

theorem pollMany_sameOperation {n : Nat} {s t : State} (h : pollMany n s = .ok t) : SameOperation s t :=
  pollMany_keeps (P := SameOperation s) (fun _ _ _ hu hv => hu.trans (pollStep_sameOperation hv)) n s t (.refl s) h

theorem pollMany_inputs (n : Nat) (s : State) (l : List Event) :
    pollMany n (withInputs l s) = (pollMany n s).map (withInputs l) := by
  induction n generalizing s with
  | zero => rfl
  | succ n ih =>
    have hp : (withInputs l s).pstate = s.pstate := rfl
    rw [pollMany, pollMany, hp, pollStep_inputs]
    split
    · rfl
    · cases pollStep s with
      | error f => rfl
      | ok u => exact ih u

/-! ### The answers used up -/

/-- A poll step takes one answer off, or the read is over (R122, R131). -/
theorem pollStep_rx {s t : State} (h : pollStep s = .ok t) : t.pstate = .idle ∨ t.rx = s.rx.drop 1 := by
  rcases pollStep_ok h with ⟨-, rfl⟩ | ⟨-, -, rfl⟩ | ⟨-, b, -, ht⟩
  · exact .inl rfl
  · exact .inr rfl
  · exact .inr (takeByte_sameTransport ht).rx

/-- As many polls as answers wait end the read or use them up. -/
theorem pollMany_rx {n : Nat} {s t : State} (hn : s.rx.length ≤ n) (h : pollMany n s = .ok t) :
    t.pstate = .idle ∨ t.rx = [] := by
  induction n generalizing s with
  | zero =>
    cases h
    exact .inr (List.length_eq_zero_iff.1 (Nat.le_zero.1 hn))
  | succ n ih =>
    rcases pollMany_succ_ok h with ⟨hp, rfl⟩ | ⟨-, u, hu, hrest⟩
    · exact .inl hp
    · rcases pollStep_rx hu with hidle | hrx
      · cases (pollMany_idle hidle).symm.trans hrest
        exact .inl hidle
      · exact ih (by rw [hrx, List.length_drop]; omega) hrest

/-- Reception from a state of the invariant: it comes to a next state, as the engine's own polls do (R42, R43, R122). -/
theorem receiveBytes_asPolled {s : State} (h : Inv s) (bytes : List Byte) :
    ∃ t, receiveBytes bytes s = .ok t ∧ ReceivedAsPolled s bytes t := by
  by_cases hp : s.pstate = .idle
  · exact ⟨_, receiveBytes_idle hp bytes, .inl hp, rfl, 0, Nat.zero_le _, fun _ => rfl, rfl⟩
  · obtain ⟨t, ht⟩ := exists_ok_of_ne_error (receiveBytes_no_error h bytes)
    have hmany : pollMany (s.rx.length + bytes.length) { s with rx := s.rx ++ bytes.map some } = .ok t := ht
    refine ⟨t, ht, pollMany_rx (by simp) hmany, ?_, _, Nat.le_refl _, fun hidle => absurd hidle hp, ?_⟩
    · exact (pollMany_sameOperation hmany).inputs
    · refine runSteps_of_pollMany rfl (fun hidle => absurd hidle hp) ?_
      exact (pollMany_inputs _ { s with rx := s.rx ++ bytes.map some } []).trans (congrArg _ hmany)

/-- An instruction that is encoded as bytes on the RX side is the reception of these bytes. -/
theorem exec_of_encode_rx {i : Instr} {bytes : List Byte} (h : encode i = .frame .rx bytes) (s : State) :
    exec i s = outcome (receiveBytes bytes s) := by
  obtain ⟨c, ds, k, -, rfl, hexec⟩ := exec_of_encode_frame h
  rw [hexec]
  rfl

/-- Bytes that an input brings on the RX side are received, whether they are a row of the table or not (R44, R48). -/
theorem step_link_rx {s : State} {bytes : List Byte} {rest : List Event} (h : s.inputs = .link .rx bytes :: rest) :
    step s = outcome (receiveBytes bytes (withInputs rest s)) := by
  cases hd : decodeFrame .rx bytes with
  | ok i =>
    obtain ⟨-, henc⟩ := encodeOfDecodedFrameIsSame .rx bytes i hd
    rw [step_of_decode (f := .frame .rx bytes) h hd, exec_of_encode_rx henc]
  | error x => exact step_of_decode_error (f := .frame .rx bytes) h hd

/-- Settles O44: a row and an input on the RX side are both the reception of their bytes. -/
theorem receptionIsPolling : Obligations.ReceptionIsPolling := by
  intro s h
  refine ⟨fun i bytes henc => ?_, fun bytes rest hin => ?_⟩
  · obtain ⟨t, ht, hpolled⟩ := receiveBytes_asPolled h bytes
    exact ⟨t, by rw [exec_of_encode_rx henc, ht, outcome_ok], hpolled⟩
  · have hinv : Inv (withInputs rest s) := h.of_other_registers _ _ _ _ _ _ _ _ _ rest
    obtain ⟨t, ht, hpolled⟩ := receiveBytes_asPolled hinv bytes
    exact ⟨t, by rw [step_link_rx hin, ht, outcome_ok], hpolled⟩

end Sys2Proof.Machine
end

section
/-!
A whole frame polled by a read that hunts for its head (spec/42_parser.md R125 to R130, R135, R136): the verdict on it when
it is received, and RECV on its nominal answers.
-/

namespace Sys2Proof.Machine

/-! ### A frame received -/

/-- The bytes of a frame before its checksum byte (R60). -/
def bodyBytes (c : Byte) (ds : List Byte) : List Byte := Config.head :: BitVec.ofNat 8 (1 + ds.length) :: c :: ds

theorem frameBytes_eq (c : Byte) (ds : List Byte) (k : Byte) : frameBytes c ds k = bodyBytes c ds ++ [k] := rfl

/-- The length byte of a frame that the engine holds (R61). -/
theorem lengthByte_toNat {n : Nat} (hn : n ≤ 4) : (BitVec.ofNat 8 (1 + n)).toNat = n + 1 := by
  rw [BitVec.toNat_ofNat, Nat.mod_eq_of_lt (by omega), Nat.add_comm]

theorem framed_sameOperation (s : State) (f : List Byte) (k : Byte) : SameOperation s (s.framed f k) :=
  ⟨rfl, rfl, rfl, rfl, rfl, rfl, rfl, rfl⟩

theorem framed_polls (s : State) (c : Byte) (ds : List Byte) (k : Byte) :
    (s.framed (bodyBytes c ds) k).polls = s.polls + (ds.length + 4) := rfl

theorem framed_idx (s : State) (c : Byte) {ds : List Byte} (k : Byte) (hn : ds.length ≤ 4) :
    (s.framed (bodyBytes c ds) k).idx.toNat = ds.length + 3 :=
  Nat.mod_eq_of_lt (show ds.length + 3 < 2 ^ 4 by omega)

theorem framed_len (s : State) (c : Byte) {ds : List Byte} (k : Byte) (hn : ds.length ≤ 4) :
    (s.framed (bodyBytes c ds) k).len.toNat = ds.length + 1 :=
  lengthByte_toNat hn

section
variable {s : State} (hw : Memory.wf s.buf = true) (c k : Byte) {ds : List Byte} (hn : ds.length ≤ 4)
include hw hn

/-- At the checks the buffer holds the length byte (R126). -/
theorem framed_lengthTaken : LengthTaken (s.framed (bodyBytes c ds) k) := by
  have hlen := framed_len s c k hn
  exact ⟨(lenOk_iff _).2 (by omega), bufAt_framed hw _ k 1⟩

/-- At the checks the buffer holds the frame (R129). -/
theorem framed_frame : (s.framed (bodyBytes c ds) k).frame = frameBytes c ds k := by
  have hlen := framed_len s c k hn
  have hsize : (frameBytes c ds k).length = ds.length + 4 := by simp [frameBytes]
  refine List.ext_getElem? fun i => ?_
  rcases Nat.lt_or_ge i (ds.length + 4) with hi | hi
  · rw [frame_getElem? _ (by omega), bufAt_framed hw, ← frameBytes_eq,
      List.getElem?_eq_getElem (by omega)]
    rfl
  · rw [List.getElem?_eq_none (by rw [State.frame, List.length_map, List.length_range]; omega),
      List.getElem?_eq_none (by omega)]

/-- The data bytes of the frame are found in the buffer (R60). -/
theorem framed_frameData : (s.framed (bodyBytes c ds) k).frameData = ds := by
  have hlen := framed_len s c k hn
  refine (frame_data (by omega)).symm.trans ?_
  rw [framed_frame hw c k hn]
  exact List.dropLast_concat

/-- The checks report the verdict of R135 on the frame (R130). -/
theorem framed_reported :
    Reported s (endOfFrame k (s.framed (bodyBytes c ds) k))
      (judge (frameBytes c ds k) s.expect (s.curOp != Config.opRecv)) := by
  have hframe := framed_frame hw c k hn
  have hsame := framed_sameOperation s (bodyBytes c ds) k
  have hreadings : SameReadings s (s.framed (bodyBytes c ds) k) := ⟨rfl, rfl, rfl⟩
  have hreport := endOfFrame_reported (f := bodyBytes c ds) (framed_lengthTaken hw c k hn) hframe rfl
  rw [hframe, hsame.expect, hsame.curOp] at hreport
  exact hreport.of_same hreadings hsame.curOp

end

/-- A frame that is accepted has its own data as the result (R135). -/
theorem judge_ok_data {c k e : Byte} {ds d : List Byte} {m : Bool} (h : judge (frameBytes c ds k) e m = .ok d) :
    d = ds := by
  unfold judge at h
  split_ifs at h
  exact (ReadResult.ok.inj h).symm.trans List.dropLast_concat

/-- Settles O45: the frame comes to the checks at its end, where the buffer holds it, and these report the verdict on
it. -/
theorem receivedFrameIsJudged : Obligations.ReceivedFrameIsJudged := by
  intro s i c k ds h hp hrx hbud hn henc
  have hw := h.bufWf
  have hreceive : receiveBytes (frameBytes c ds k) s = .ok (endOfFrame k (s.framed (bodyBytes c ds) k)) :=
    outcome_next (frameEffect_rx_hunting hp hrx c k hn hbud)
  have hreport : Reported s _ (judge (frameBytes c ds k) s.expect (s.curOp != 0x2)) := framed_reported hw c k hn
  have hread := bufAt_framed hw (bodyBytes c ds) k
  obtain ⟨hsame, hbusy, hidx, hlen, hbuf⟩ := endOfFrame_frame k (s.framed (bodyBytes c ds) k)
  have hpolls := hsame.polls.trans (framed_polls s c ds k)
  have hcost := (pollMany_polled hreceive).cost
  have hop := (framed_sameOperation s (bodyBytes c ds) k).trans hsame.toSameOperation
  have hidle := endOfFrame_pstate k (s.framed (bodyBytes c ds) k)
  have hused : (endOfFrame k (s.framed (bodyBytes c ds) k)).rx = [] := hsame.rx
  generalize endOfFrame k (s.framed (bodyBytes c ds) k) = t at *
  refine ⟨t, by rw [exec_of_encode_rx henc, hreceive, outcome_ok], hbusy, hidle, hused, hop.tx, hop.mode, hop.curOp,
    hop.phase, hop.expect, hop.readBudget, hop.rdata, hop.inputs, ?_, hpolls, ?_, ?_, fun j => ?_, ?_⟩
  · dsimp only at hcost
    omega
  · rw [hidx, framed_idx s c k hn]
  · rw [hlen, framed_len s c k hn]
  · rw [State.bufAt, hbuf]
    exact hread j
  · cases hj : judge (frameBytes c ds k) s.expect (s.curOp != 0x2) with
    | ok d =>
      rw [hj] at hreport
      obtain rfl := judge_ok_data hj
      exact ⟨rfl, hreport⟩
    | fail x =>
      rw [hj] at hreport
      exact hreport

/-! ### RECV on its nominal answers -/

/-- The same state with other answers waiting. -/
def withRx (l : List (Option Byte)) (s : State) : State := { s with rx := l }

theorem endOfFrame_withRx (b : Byte) (s : State) (l : List (Option Byte)) :
    endOfFrame b (withRx l s) = withRx l (endOfFrame b s) := by
  simp only [endOfFrame, apply_ite (withRx l)]
  rfl

/-- A byte is taken without a look at the answers behind it (R122). -/
theorem takeByte_withRx {b : Byte} {s t : State} (h : takeByte b s = .ok t) (l : List (Option Byte)) :
    takeByte b (withRx l s) = .ok (withRx l t) := by
  rcases takeByte_ok h with ⟨hp, rfl⟩ | ⟨hp, hb, rfl⟩ | ⟨hp, rfl, rfl⟩ | ⟨hp, hb, rfl⟩ | ⟨hp, hb, rfl⟩ | ⟨hp, rfl⟩ |
    ⟨hp, hi, rfl⟩ | ⟨hp, hi, rfl⟩
  -- no read
  · have hp' : (withRx l t).pstate = .idle := hp
    rw [takeByte, hp']
  -- a stray byte; the head; the length byte, illegal and legal; the command byte; a data byte; the checksum byte
  · exact takeByte_hunt_stray hp hb
  · exact takeByte_hunt_head hp
  · exact takeByte_len_illegal hp hb
  · exact takeByte_len_legal hp hb
  · exact takeByte_cmd hp
  · exact takeByte_data_of_lt hp hi
  · exact (takeByte_csum_of_lt (s := withRx l s) hp hi).trans
      (congrArg Except.ok (endOfFrame_withRx b { s with buf := cellPut s.buf s.idx.toNat b } l))

/-- A poll takes the first answer only; those put behind the ones that wait stay (R42). -/
theorem pollStep_append_rx {s t : State} (hrx : s.rx ≠ []) (h : pollStep s = .ok t) (l : List (Option Byte)) :
    pollStep (withRx (s.rx ++ l) s) = .ok (withRx (t.rx ++ l) t) := by
  obtain ⟨x, r, hx⟩ := List.exists_cons_of_ne_nil hrx
  have hanswer : (withRx (s.rx ++ l) s).answer 0 = s.answer 0 := by
    rw [answer_cons_zero hx, answer_cons_zero (a := x) (l := r ++ l) (by rw [hx]; rfl)]
  have hcharge : chargePoll (withRx (s.rx ++ l) s) = withRx (s.rx.drop 1 ++ l) (chargePoll s) := by
    rw [hx]
    rfl
  have hbud : (withRx (s.rx ++ l) s).budget = s.budget := rfl
  rw [pollStep, hbud, hanswer, hcharge]
  rcases pollStep_ok h with ⟨h0, rfl⟩ | ⟨hb, ha, rfl⟩ | ⟨hb, b, ha, ht⟩
  · rw [if_pos h0]
    rfl
  · rw [if_neg hb, ha]
    rfl
  · rw [if_neg hb, ha, (takeByte_sameTransport ht).rx]
    exact takeByte_withRx ht _

/-- A run of polls that the waiting answers suffice for leaves those put behind them (R42). -/
theorem pollMany_append_rx {n : Nat} {s t : State} (hn : n ≤ s.rx.length) (h : pollMany n s = .ok t)
    (l : List (Option Byte)) : pollMany n (withRx (s.rx ++ l) s) = .ok (withRx (t.rx ++ l) t) := by
  induction n generalizing s with
  | zero =>
    cases h
    rfl
  | succ n ih =>
    have hp : (withRx (s.rx ++ l) s).pstate = s.pstate := rfl
    rw [pollMany, hp]
    rcases pollMany_succ_ok h with ⟨hidle, rfl⟩ | ⟨hreading, u, hu, hrest⟩
    · rw [if_pos hidle]
    · rw [if_neg hreading, pollStep_append_rx (List.ne_nil_of_length_pos (by omega)) hu]
      rcases pollStep_rx hu with hidle | hrx
      · cases (pollMany_idle hidle).symm.trans hrest
        exact pollMany_idle hidle
      · exact ih (by rw [hrx, List.length_drop]; omega) hrest

/-- A read that hunts for its head polls a frame at the head of the answers byte by byte, up to the checks at its end
(R122 to R130). -/
theorem runSteps_frame {s : State} (hin : s.inputs = []) (hp : s.pstate = .hunt) {c k : Byte} {ds : List Byte}
    {rest : List (Option Byte)} (hn : ds.length ≤ 4) (hbud : ds.length + 4 ≤ s.budget.toNat)
    (hrx : s.rx = (frameBytes c ds k).map some ++ rest) :
    runSteps (ds.length + 4) s = .next (withRx rest (endOfFrame k (s.framed (bodyBytes c ds) k))) := by
  have hsize : (frameBytes c ds k).length = ds.length + 4 := wireFrame_length _ c ds k
  have hreceive : pollMany (0 + (frameBytes c ds k).length) (withRx ((frameBytes c ds k).map some) s) =
      .ok (endOfFrame k (s.framed (bodyBytes c ds) k)) :=
    outcome_next (frameEffect_rx_hunting (s := withRx [] s) hp rfl c k hn hbud)
  rw [Nat.zero_add, hsize] at hreceive
  have hmany := pollMany_append_rx (by simp [withRx, hsize]) hreceive rest
  have hsame : withRx ((frameBytes c ds k).map some ++ rest) s = s := by rw [← hrx]; rfl
  have hused : (endOfFrame k (s.framed (bodyBytes c ds) k)).rx = [] := (endOfFrame_frame k _).1.rx
  rw [hused, List.nil_append] at hmany
  exact runSteps_of_pollMany hin (fun hidle => by simp [hp] at hidle) (hsame ▸ hmany)

/-- A frame for the expected command whose bytes sum to 0 is committed by RECV, whatever its length (R130, R136). -/
theorem endOfFrame_of_recv {b : Byte} {s : State} (hsum : checksumGood s.sum b = true) (hcmd : s.bufAt 2 = s.expect)
    (hop : s.curOp = Config.opRecv) : endOfFrame b s = commitRecv s := by
  simp [endOfFrame, hsum, hcmd, hop]

/-- The frame of the encoder for the expected command passes the checks of RECV (R95, R130). -/
theorem endOfFrame_framed_of_recv {s : State} (hw : Memory.wf s.buf = true) (hop : s.curOp = Config.opRecv) {c : Byte}
    (hc : s.expect = c) (ds : List Byte) :
    endOfFrame (csum8 (bodyBytes c ds)) (s.framed (bodyBytes c ds) (csum8 (bodyBytes c ds))) =
      commitRecv (s.framed (bodyBytes c ds) (csum8 (bodyBytes c ds))) := by
  have hsame := framed_sameOperation s (bodyBytes c ds) (csum8 (bodyBytes c ds))
  have hcmd := bufAt_framed hw (bodyBytes c ds) (csum8 (bodyBytes c ds)) 2
  have hgood := sum8_with_csum8 (bodyBytes c ds)
  rw [← checkOk_iff, ← checksumGood_iff] at hgood
  exact endOfFrame_of_recv hgood (hcmd.trans (hc.symm.trans hsame.expect.symm)) (hsame.curOp.trans hop)

/-- What RECV leaves of the read of `s` when it commits a whole frame (R136). -/
theorem commitRecv_framed {s : State} (hw : Memory.wf s.buf = true) (c k : Byte) {ds : List Byte} (hn : ds.length ≤ 4) :
    commitRecv (s.framed (bodyBytes c ds) k) =
      { s with
        status := 0x00, busy := false, resOk := true, resCause := .none, resN := BitVec.ofNat 3 ds.length
        resData := ⟨ds.getD 0 0, ds.getD 1 0, ds.getD 2 0, ds.getD 3 0⟩, pstate := .idle
        budget := s.budget - BitVec.ofNat 16 (ds.length + 4), idx := BitVec.ofNat 4 (ds.length + 3)
        len := BitVec.ofNat 8 (1 + ds.length), sum := sum8 (bodyBytes c ds), buf := stored s.buf 0 (bodyBytes c ds ++ [k])
        rx := [], polls := s.polls + (ds.length + 4) } := by
  have hdata : payload (s.framed (bodyBytes c ds) k) = ⟨ds.getD 0 0, ds.getD 1 0, ds.getD 2 0, ds.getD 3 0⟩ := by
    rw [payload_eq_frameData, framed_frameData hw c k hn]
  have hresN : ((s.framed (bodyBytes c ds) k).len - 1).setWidth 3 = BitVec.ofNat 3 ds.length := by
    have hlen := framed_len s c k hn
    refine BitVec.eq_of_toNat_eq ((resN_toNat (framed_lengthTaken hw c k hn).1).trans ?_)
    rw [hlen, BitVec.toNat_ofNat, Nat.mod_eq_of_lt (by omega), Nat.add_sub_cancel]
  have hbudget : s.budget - BitVec.ofNat 16 (ds.length + 4) = s.budget - BitVec.ofNat 16 (ds.length + 3) - 1 := by
    rw [show ds.length + 4 = ds.length + 3 + 1 from rfl, BitVec.ofNat_add, sub_add_eq_sub_sub]
    rfl
  rw [commitRecv, hdata, hresN, hbudget]
  rfl

/-- Settles O25: the read hunts over a good frame, and RECV commits it. -/
theorem recvReturnsPayload : Obligations.RecvReturnsPayload := by
  intro s cmd bud ds rest hw hidle hin hc hn hbud hrx body
  let s1 := startRead cmd bud (prologue Config.opRecv s)
  have hw' : Memory.wf s1.buf = true := hw
  have hstart : exec (.recv cmd bud) s = .next s1 := exec_recv_of_legal hidle ((isCommand_iff cmd).2 hc) bud
  have hrun := runSteps_frame (s := s1) (k := csum8 (bodyBytes cmd ds)) hin rfl hn hbud hrx
  rw [endOfFrame_framed_of_recv (c := cmd) hw' rfl rfl, commitRecv_framed hw' cmd _ hn] at hrun
  refine ⟨s1, _, _, hstart, hrun, bufAt_framed hw' (bodyBytes cmd ds) (csum8 body), ?_⟩
  rw [← hidle]
  rfl

end Sys2Proof.Machine
end

section
/-!
The accessors, and READPM and INIT (spec/43_operations.md R151 to R159): the start step, the writes up to the start of the
read, the read on its nominal answers, and the end that every operation comes to.
-/

namespace Sys2Proof.Machine

/-- Settles O9: the accessors are the writes of `rdata`, busy or not. -/
theorem accessorsReturnRegisters : Obligations.AccessorsReturnRegisters := fun _ => ⟨rfl, rfl, rfl⟩

/-! ### The start and the writes -/

/-- The operation `op` of `s` after its prologue, with part `ph` of it due (R150, R153, R155). -/
def State.opened (s : State) (op : BitVec 4) (ph : Phase) : State := { prologue op s with phase := ph }

/-- READPM between operations runs its prologue, and the CMD_READ frame is due (R153). -/
theorem exec_readpm_of_idle {s : State} (h : s.busy = false) :
    exec .readpm s = .next (s.opened Config.opReadpm .readFrame) :=
  congrArg Host.Outcome.next (whenIdle_of_idle _ h)

/-- INIT between operations runs its prologue, and the START frame is due (R155). -/
theorem exec_init_of_idle {s : State} (h : s.busy = false) :
    exec .init s = .next (s.opened Config.opInit .startFrame) :=
  congrArg Host.Outcome.next (whenIdle_of_idle _ h)

/-- The operation of `s` once its read has started, with the bytes `f` written and the mode at `m` (R153, R155). -/
def State.readStarted (s : State) (m : Mode) (f : List Byte) : State :=
  { s with
    tx := s.tx ++ f, mode := m, phase := .reading, expect := Config.cmdRead, budget := s.readBudget
    pstate := .hunt, idx := 0, sum := 0, len := 0 }

section
variable {s : State} (hin : s.inputs = []) (hp : s.pstate = .idle) (hb : s.busy = true)
include hin hp hb

/-- Outside a read the step of an operation in progress is its write. -/
theorem step_writing : step s = outcome (writeStep s) := by
  rw [step_alone hin, engineStep, if_neg (not_not.2 hp), if_pos hb]

theorem step_startFrame (hop : s.curOp = Config.opInit) (hphase : s.phase = .startFrame) :
    step s = .next { writeFrame Config.cmdStart [] s with phase := .autoFrame } := by
  rw [step_writing hin hp hb, writeStep, if_pos ⟨hop, hphase⟩, outcome_ok]

theorem step_autoFrame (hop : s.curOp = Config.opInit) (hphase : s.phase = .autoFrame) :
    step s = .next { writeFrame Config.cmdEnAuto [] s with phase := .readFrame } := by
  rw [step_writing hin hp hb, writeStep, if_neg (by simp [hphase]), if_pos ⟨hop, hphase⟩, outcome_ok]

/-- The read starts in the step of its command frame (R153). -/
theorem step_readFrame (hop : s.curOp = Config.opReadpm ∨ s.curOp = Config.opInit) (hphase : s.phase = .readFrame) :
    step s = .next (s.readStarted s.mode (buildFrame Config.cmdRead [])) := by
  rw [step_writing hin hp hb, writeStep, if_neg (by simp [hphase]), if_neg (by simp [hphase]), if_pos ⟨hop, hphase⟩]
  rfl

theorem runSteps_autoFrame (hop : s.curOp = Config.opInit) (hphase : s.phase = .autoFrame) :
    runSteps 2 s = .next
      (s.readStarted .measuring (buildFrame Config.cmdEnAuto [] ++ buildFrame Config.cmdRead [])) := by
  rw [runSteps_of_step (step_autoFrame hin hp hb hop hphase),
    runSteps_of_step
      (step_readFrame (s := { writeFrame Config.cmdEnAuto [] s with phase := .readFrame }) hin hp hb (.inr hop) rfl),
    State.readStarted, State.readStarted, ← List.append_assoc]
  rfl

theorem runSteps_startFrame (hop : s.curOp = Config.opInit) (hphase : s.phase = .startFrame) :
    runSteps 3 s = .next
      (s.readStarted .measuring
        (buildFrame Config.cmdStart [] ++ (buildFrame Config.cmdEnAuto [] ++ buildFrame Config.cmdRead []))) := by
  rw [runSteps_of_step (step_startFrame hin hp hb hop hphase),
    runSteps_autoFrame (s := { writeFrame Config.cmdStart [] s with phase := .autoFrame }) hin hp hb hop rfl,
    State.readStarted, State.readStarted, ← List.append_assoc s.tx]
  rfl

/-- The writes of a composite come to the start of its read, in three steps at most (R159). -/
theorem read_starts_of_writeDue (hdue : WriteDue s) : ∃ n m f, n ≤ 3 ∧ runSteps n s = .next (s.readStarted m f) := by
  have hread (hop : s.curOp = Config.opReadpm ∨ s.curOp = Config.opInit) (hphase : s.phase = .readFrame) :
      ∃ n m f, n ≤ 3 ∧ runSteps n s = .next (s.readStarted m f) :=
    ⟨1, _, _, by decide, runSteps_of_step (n := 0) (step_readFrame hin hp hb hop hphase)⟩
  rcases hdue with ⟨hop, hphase⟩ | ⟨hop, hphase⟩
  · cases h : s.phase with
    | startFrame => exact ⟨3, _, _, by decide, runSteps_startFrame hin hp hb hop h⟩
    | autoFrame => exact ⟨2, _, _, by decide, runSteps_autoFrame hin hp hb hop h⟩
    | readFrame => exact hread (.inr hop) h
    | reading => exact absurd h hphase
  · exact hread (.inl hop) hphase

end

section
variable {s : State} (hin : s.inputs = []) (hp : s.pstate = .idle)
include hin hp

/-- READPM comes to its read in one step. -/
theorem step_opened_readpm :
    step (s.opened Config.opReadpm .readFrame) = .next
      ((s.opened Config.opReadpm .readFrame).readStarted s.mode (buildFrame Config.cmdRead [])) :=
  step_readFrame hin hp rfl (.inl rfl) rfl

/-- INIT comes to its read in three. -/
theorem runSteps_opened_init :
    runSteps 3 (s.opened Config.opInit .startFrame) = .next
      ((s.opened Config.opInit .startFrame).readStarted .measuring
        (buildFrame Config.cmdStart [] ++ (buildFrame Config.cmdEnAuto [] ++ buildFrame Config.cmdRead []))) :=
  runSteps_startFrame hin hp rfl rfl rfl

end

/-- Settles O22: the start step, then the write that is due. -/
theorem readpmWritesThenHunts : Obligations.ReadpmWritesThenHunts := by
  intro s hidle hin
  exact ⟨s.opened Config.opReadpm .readFrame, exec_readpm_of_idle hidle, rfl, fun hp => step_opened_readpm hin hp⟩

/-- Settles O23: the start step, then the write that is due first, or all three. -/
theorem initWritesThreeFramesThenHunts : Obligations.InitWritesThreeFramesThenHunts := by
  intro s hidle hin
  refine ⟨s.opened Config.opInit .startFrame, exec_init_of_idle hidle, rfl, fun hp => ⟨?_, ?_⟩⟩
  · exact runSteps_of_step (n := 0)
      (step_startFrame (s := s.opened Config.opInit .startFrame) hin hp rfl rfl rfl)
  · exact runSteps_opened_init hin hp

/-! ### The nominal answers -/

/-- What READPM and INIT leave of the read of `s` when they commit a measurement response (R152). -/
theorem commitMeasurement_framed {s : State} (hw : Memory.wf s.buf = true) (a b d e k : Byte) :
    commitMeasurement (s.framed (bodyBytes Config.cmdRead [a, b, d, e]) k) =
      { s with
        pm25 := be16 a b, pm10 := be16 d e, status := 0x00, busy := false, resOk := true, resCause := .none, resN := 4
        resData := ⟨a, b, d, e⟩, pstate := .idle, budget := s.budget - 8, idx := 7, len := 5
        sum := 0x49 + a + b + d + e, buf := stored s.buf 0 (frameBytes Config.cmdRead [a, b, d, e] k), rx := []
        polls := s.polls + 8 } := by
  have hread := bufAt_framed hw (bodyBytes Config.cmdRead [a, b, d, e]) k
  have hbudget : s.budget - 8 = s.budget - 7 - 1 := sub_add_eq_sub_sub s.budget 7 1
  rw [commitMeasurement, hread, hread, hread, hread, hbudget, ← sum8_measurement]
  rfl

/-- A good measurement response at the head of the answers is polled in eight steps and committed by READPM and INIT (R152). -/
theorem runSteps_measurement {s : State} (hw : Memory.wf s.buf = true) (hin : s.inputs = []) (hp : s.pstate = .hunt)
    (hop : s.curOp = Config.opReadpm ∨ s.curOp = Config.opInit) (hexpect : s.expect = Config.cmdRead)
    (hbud : 8 ≤ s.budget.toNat) {a b d e k : Byte} {rest : List (Option Byte)} (hsum : 0x49 + a + b + d + e + k = 0)
    (hrx : s.rx = (frameBytes Config.cmdRead [a, b, d, e] k).map some ++ rest) :
    runSteps 8 s =
      .next (withRx rest (commitMeasurement (s.framed (bodyBytes Config.cmdRead [a, b, d, e]) k))) := by
  have hgood : checksumGood (sum8 (bodyBytes Config.cmdRead [a, b, d, e])) k = true :=
    (checksumGood_eq_true_iff _ _).2 (sum8_measurement a b d e ▸ hsum)
  have hcmd := bufAt_framed hw (bodyBytes Config.cmdRead [a, b, d, e]) k 2
  have hnotRecv : s.curOp ≠ Config.opRecv := by rcases hop with h | h <;> rw [h] <;> decide
  rw [← endOfFrame_of_measurement (s := s.framed (bodyBytes Config.cmdRead [a, b, d, e]) k) hgood
    (hcmd.trans hexpect.symm) hnotRecv rfl]
  exact runSteps_frame (ds := [a, b, d, e]) hin hp (by simp) hbud hrx

section
variable {s : State} (hw : Memory.wf s.buf = true) (hidle : s.busy = false) (hp : s.pstate = .idle) (hin : s.inputs = [])
include hw hidle hp hin

/-- READPM or INIT whole, on its nominal answers: the `n` steps of its writes, and eight polls that take the frame to its
commit. -/
theorem runSteps_writes_measurement {op : BitVec 4} {ph : Phase} {n : Nat} {mode : Mode} {f : List Byte}
    (hwrites : runSteps n (s.opened op ph) = .next ((s.opened op ph).readStarted mode f))
    (hop : op = Config.opReadpm ∨ op = Config.opInit) (hbud : 8 ≤ s.readBudget.toNat) {a b d e k : Byte}
    {rest : List (Option Byte)} (hsum : 0x49 + a + b + d + e + k = 0)
    (hrx : s.rx = (frameBytes Config.cmdRead [a, b, d, e] k).map some ++ rest) :
    runSteps (n + 8) (s.opened op ph) = .next
      { s with
        pm25 := be16 a b, pm10 := be16 d e, status := 0x00, mode := mode, resOk := true, resCause := .none, resN := 4
        resData := ⟨a, b, d, e⟩, curOp := op, phase := .reading, expect := Config.cmdRead, budget := s.readBudget - 8
        idx := 7, len := 5, sum := 0x49 + a + b + d + e
        buf := stored s.buf 0 (frameBytes Config.cmdRead [a, b, d, e] k), tx := s.tx ++ f, rx := rest
        polls := s.polls + 8 } := by
  have hw' : Memory.wf ((s.opened op ph).readStarted mode f).buf = true := hw
  rw [runSteps_add hwrites, runSteps_measurement hw' hin rfl hop rfl hbud hsum hrx, commitMeasurement_framed hw', ← hidle,
    ← hp]
  rfl

end

/-- Settles O21: one write, and the read of the frame. -/
theorem readpmStoresMeasurement : Obligations.ReadpmStoresMeasurement := by
  intro s a b d e rest hw hidle hp hin hbud hrx
  exact ⟨_, _, _, exec_readpm_of_idle hidle,
    runSteps_writes_measurement (n := 1) hw hidle hp hin (runSteps_of_step (step_opened_readpm hin hp)) (.inl rfl) hbud
      (add_neg_cancel _) hrx,
    be16_toNat a b, be16_toNat d e, bufAt_framed hw (bodyBytes Config.cmdRead [a, b, d, e]) _, rfl⟩

/-- Settles O24: three writes, and the read of the frame. -/
theorem initStoresMeasurement : Obligations.InitStoresMeasurement := by
  intro s a b d e rest hw hidle hp hin hbud hrx
  exact ⟨_, _, _, exec_init_of_idle hidle,
    runSteps_writes_measurement hw hidle hp hin (runSteps_opened_init hin hp) (.inr rfl) hbud (add_neg_cancel _) hrx,
    be16_toNat a b, be16_toNat d e, bufAt_framed hw (bodyBytes Config.cmdRead [a, b, d, e]) _, rfl⟩

/-! ### The end of an operation -/

/-- Every run keeps the invariant. -/
theorem runSteps_inv {n : Nat} {s t : State} (h : Inv s) (ht : runSteps n s = .next t) : Inv t := by
  induction n generalizing s with
  | zero =>
    cases ht
    exact h
  | succ n ih =>
    rw [runSteps_succ] at ht
    split at ht
    · next u hu => exact ih (step_inv h hu) ht
    · cases ht
    · cases ht

/-- A read is that of an operation with a code of its own (R72). -/
theorem ReadOwner.curOp_ne_zero {s : State} (h : ReadOwner s) : s.curOp ≠ 0 := by
  rcases h with ⟨hop, -⟩ | ⟨hop | hop, -, -⟩ <;> rw [hop] <;> decide

/-- `res_cause` and `status` say of a read that has ended just what `res_ok` says (R13, R17). -/
theorem ReadEndsAs.result_iff {s t : State} {r : ReadResult × Nat} (h : ReadEndsAs s r t) (hinv : Inv t)
    (hop : s.curOp ≠ 0) : (t.resOk = true ↔ t.resCause = .none) ∧ (t.status = 0x00 ↔ t.resOk = true) := by
  have hreported := h.reported
  obtain ⟨r, n⟩ := r
  cases r with
  | ok d =>
    obtain ⟨hstatus, hok, hcause, -⟩ := hreported
    simp [hstatus, hok, hcause]
  | fail c =>
    obtain ⟨hstatus, hok, -⟩ := hreported
    have hcause := hinv.failureHasCause h.busy (h.same.curOp ▸ hop) hok
    simp [hstatus, hok, hcause]

/-- Settles O27: the writes that are due start the read, and the read ends. -/
theorem everyOperationEnds : Obligations.EveryOperationEnds := by
  intro s h hin hb
  -- the read in progress, or the one that the writes come to
  obtain ⟨n, u, hn, hrun, hin', hp'⟩ : ∃ n u, n + u.budget.toNat ≤ s.budget.toNat + s.readBudget.toNat + 3 ∧
      runSteps n s = .next u ∧ u.inputs = [] ∧ u.pstate ≠ .idle := by
    by_cases hp : s.pstate = .idle
    · obtain ⟨n, m, f, hn, hrun⟩ := read_starts_of_writeDue hin hp hb (h.writeDue hb hp)
      have hbudget : (s.readStarted m f).budget = s.readBudget := rfl
      exact ⟨n, _, by rw [hbudget]; omega, hrun, hin, by simp [State.readStarted]⟩
    · exact ⟨0, s, by omega, rfl, hin, hp⟩
  have hinv := runSteps_inv h hrun
  obtain ⟨i, t, hi, hread, hinv', hend⟩ := read_ends_as_parsed _ hinv hin' hp' rfl
  exact ⟨n + i, t, by omega, (runSteps_add hrun).trans hread, hend.busy, hend.pstate,
    hend.result_iff hinv' (hinv.readOwner hp').curOp_ne_zero⟩

end Sys2Proof.Machine
end

section
/-!
The mode (spec/10_state.md R14, spec/43_operations.md R160, R161): it follows the command frames written to TX, and nothing else
in the machine looks at it.
-/

namespace Sys2Proof.Machine

/-! ### What changes the mode -/

/-- `mode` in a step that is no reset (R160): kept, or updated by the command byte of a frame that is written to TX. -/
def ModeFollowsTx (s t : State) : Prop :=
  t.mode = s.mode ∨ ∃ (c : Byte) (ps : List Byte), ps.length ≤ 4 ∧ t.tx = s.tx ++ buildFrame c ps ∧ t.mode = nextMode s.mode c

theorem receiveBytes_mode {bytes : List Byte} {s t : State} (h : receiveBytes bytes s = .ok t) : t.mode = s.mode :=
  (pollMany_sameOperation (s := { s with rx := s.rx ++ bytes.map some }) h).mode

theorem engineStep_mode {s t : State} (h : engineStep s = .next t) : ModeFollowsTx s t := by
  rcases engineStep_next h with ⟨-, hq⟩ | ⟨-, -, hq⟩ | ⟨-, -, rfl⟩
  · exact .inl (pollStep_sameOperation hq).mode
  · rcases writeStep_ok hq with ⟨-, -, rfl⟩ | ⟨-, -, rfl⟩ | ⟨-, -, rfl⟩
    · exact .inr ⟨Config.cmdStart, [], by decide, rfl, rfl⟩
    · exact .inr ⟨Config.cmdEnAuto, [], by decide, rfl, rfl⟩
    · exact .inr ⟨Config.cmdRead, [], by decide, rfl, rfl⟩
  · exact .inl rfl

theorem ExecMove.mode {s t : State} (m : ExecMove s t) : ModeFollowsTx s t := by
  cases m with
  | sent op c ps _ _ _ hn => exact .inr ⟨c, ps, hn, rfl, rfl⟩
  | received bytes t h => exact .inl (receiveBytes_mode h)
  | _ => exact .inl rfl

/-- What every step but a reset does to the mode. -/
theorem step_mode {s t : State} (hreset : resetNext s = false) (h : step s = .next t) : ModeFollowsTx s t := by
  rcases step_next h with ⟨-, he⟩ | ⟨-, he⟩ | ⟨-, -, he⟩ | ⟨-, -, rfl⟩ | ⟨-, hm⟩ | ⟨-, hm⟩ | ⟨r, l, -, rfl⟩ | ⟨l, hi, -⟩
  · exact engineStep_mode he
  · exact engineStep_mode (s := dropInput s) he
  · exact engineStep_mode he
  · exact .inl rfl
  · exact hm.mode
  · exact hm.mode
  · exact .inl rfl
  · simp [resetNext, hi] at hreset

/-- A command byte that changes the mode is one of START, ENAUTO, STOP and DISAUTO (R160). -/
theorem nextMode_of_changed {m : Mode} {c : Byte} (h : nextMode m c ≠ m) :
    nextMode m c = .measuring ∧ (c = Config.cmdStart ∨ c = Config.cmdEnAuto) ∨
      nextMode m c = .stopped ∧ (c = Config.cmdStop ∨ c = Config.cmdStopAuto) := by
  unfold nextMode at h ⊢
  split_ifs at h ⊢ with hon hoff
  · exact .inl ⟨rfl, hon⟩
  · exact .inr ⟨rfl, hoff⟩
  · exact absurd rfl h

/-- Settles O36: a mode that is not kept follows a frame of the encoder. -/
theorem modeChangesOnlyWithCommandFrame : Obligations.ModeChangesOnlyWithCommandFrame := by
  intro s t hreset h hne
  rcases step_mode hreset h with hkept | ⟨c, ps, hn, htx, hmode⟩
  · exact absurd hkept hne
  · refine ⟨c, buildFrame c ps, htx, validFrameFor_buildFrame c hn, ?_⟩
    rw [hmode] at hne ⊢
    exact nextMode_of_changed hne

/-! ### The engine does not look at the mode -/

/-- The same state in another mode. -/
def withMode (m : Mode) (s : State) : State := { s with mode := m }

theorem endOfFrame_withMode (b : Byte) (s : State) (m : Mode) :
    endOfFrame b (withMode m s) = withMode m (endOfFrame b s) := by
  simp only [endOfFrame, apply_ite (withMode m)]
  rfl

theorem takeByte_withMode {b : Byte} {s t : State} (h : takeByte b s = .ok t) (m : Mode) :
    takeByte b (withMode m s) = .ok (withMode m t) := by
  rcases takeByte_ok h with ⟨hp, rfl⟩ | ⟨hp, hb, rfl⟩ | ⟨hp, rfl, rfl⟩ | ⟨hp, hb, rfl⟩ | ⟨hp, hb, rfl⟩ | ⟨hp, rfl⟩ |
    ⟨hp, hi, rfl⟩ | ⟨hp, hi, rfl⟩
  -- no read
  · have hp' : (withMode m t).pstate = .idle := hp
    rw [takeByte, hp']
  -- a stray byte; the head; the length byte, illegal and legal; the command byte; a data byte; the checksum byte
  · exact takeByte_hunt_stray hp hb
  · exact takeByte_hunt_head hp
  · exact takeByte_len_illegal hp hb
  · exact takeByte_len_legal hp hb
  · exact takeByte_cmd hp
  · exact takeByte_data_of_lt hp hi
  · exact (takeByte_csum_of_lt (s := withMode m s) hp hi).trans
      (congrArg Except.ok (endOfFrame_withMode b { s with buf := cellPut s.buf s.idx.toNat b } m))

theorem pollStep_withMode {s t : State} (h : pollStep s = .ok t) (m : Mode) :
    pollStep (withMode m s) = .ok (withMode m t) := by
  have hbud : (withMode m s).budget = s.budget := rfl
  have hanswer : (withMode m s).answer 0 = s.answer 0 := rfl
  rw [pollStep, hbud, hanswer]
  rcases pollStep_ok h with ⟨h0, rfl⟩ | ⟨hb, ha, rfl⟩ | ⟨hb, b, ha, ht⟩
  · rw [if_pos h0]
    rfl
  · rw [if_neg hb, ha]
    rfl
  · rw [if_neg hb, ha]
    exact takeByte_withMode ht m

theorem pollMany_withMode {n : Nat} {s t : State} (h : pollMany n s = .ok t) (m : Mode) :
    pollMany n (withMode m s) = .ok (withMode m t) := by
  induction n generalizing s with
  | zero =>
    cases h
    rfl
  | succ n ih =>
    have hp : (withMode m s).pstate = s.pstate := rfl
    rw [pollMany, hp]
    rcases pollMany_succ_ok h with ⟨hidle, rfl⟩ | ⟨hreading, u, hu, hrest⟩
    · rw [if_pos hidle]
    · rw [if_neg hreading, pollStep_withMode hu]
      exact ih hrest

/-! ### Nor does an instruction -/

/-- In every mode `f` comes to the same state but for the mode (R161). -/
def SameInEveryMode (f : State → State) : Prop := ∀ s m, ∃ m', f (withMode m s) = withMode m' (f s)

/-- Where `r` goes on, it goes on in every mode, to the same state but for the mode (R161). -/
def GoesOnInEveryMode (r : State → Result) : Prop :=
  ∀ s t m, r s = .next t → ∃ m', r (withMode m s) = .next (withMode m' t)

theorem sendFrame_sameInEveryMode (op : BitVec 4) (c : Byte) (ps : List Byte) : SameInEveryMode (sendFrame op c ps) :=
  fun _ m => ⟨nextMode m c, rfl⟩

theorem refuseOp_sameInEveryMode (op : BitVec 4) : SameInEveryMode fun s => refuseOp (prologue op s) :=
  fun _ m => ⟨m, rfl⟩

theorem startRead_sameInEveryMode (e : Byte) (b : Half) (op : BitVec 4) :
    SameInEveryMode fun s => startRead e b (prologue op s) :=
  fun _ m => ⟨m, rfl⟩

theorem opened_sameInEveryMode (op : BitVec 4) (ph : Phase) : SameInEveryMode (State.opened · op ph) :=
  fun _ m => ⟨m, rfl⟩

theorem SameInEveryMode.ite {p : Prop} [Decidable p] {f g : State → State} (hf : SameInEveryMode f)
    (hg : SameInEveryMode g) : SameInEveryMode fun s => if p then f s else g s := by
  split
  · exact hf
  · exact hg

/-- A non-accessor is ignored while busy, whatever the mode (R188). -/
theorem SameInEveryMode.whenIdle {f : State → State} (h : SameInEveryMode f) : SameInEveryMode (whenIdle f) := by
  intro s m
  rcases hb : s.busy
  · obtain ⟨m', hm⟩ := h s m
    exact ⟨m', by rw [whenIdle_of_idle f (s := withMode m s) hb, whenIdle_of_idle f hb, hm]⟩
  · exact ⟨m, by rw [whenIdle_of_busy f (s := withMode m s) hb, whenIdle_of_busy f hb]⟩

theorem SameInEveryMode.next {f : State → State} (h : SameInEveryMode f) : GoesOnInEveryMode fun s => .next (f s) := by
  intro s t m ht
  obtain ⟨m', hm⟩ := h s m
  injection ht with ht
  exact ⟨m', congrArg _ (ht ▸ hm)⟩

theorem receiveBytes_goesOnInEveryMode (bytes : List Byte) :
    GoesOnInEveryMode fun s => outcome (receiveBytes bytes s) := by
  intro s t m ht
  exact ⟨m, congrArg outcome (pollMany_withMode (s := { s with rx := s.rx ++ bytes.map some }) (outcome_next ht) m)⟩

theorem frameEffect_goesOnInEveryMode (dir : Dir) (c : Byte) (ds : List Byte) (k : Byte) :
    GoesOnInEveryMode (frameEffect dir c ds k) := by
  intro s t m ht
  rcases frameEffect_next ht with ⟨rfl, hc, hk, rfl⟩ | ⟨rfl, -⟩
  · have hok := frameOk_tx_iff.2 ⟨hc, hk⟩
    rw [frameEffect_tx_of_frameOk hok]
    exact (sendFrame_sameInEveryMode Config.opSend c ds).whenIdle.next s _ m rfl
  · exact receiveBytes_goesOnInEveryMode _ s t m ht

/-- Every instruction runs alike in every mode (R161). -/
theorem exec_goesOnInEveryMode (i : Instr) : GoesOnInEveryMode (exec i) := by
  cases i with
  | send cmd n p0 p1 p2 p3 =>
    exact ((sendFrame_sameInEveryMode _ cmd _).ite (refuseOp_sameInEveryMode _)).whenIdle.next
  | recv cmd bud => exact ((startRead_sameInEveryMode cmd bud _).ite (refuseOp_sameInEveryMode _)).whenIdle.next
  | start | stop | enauto | disauto => exact (sendFrame_sameInEveryMode _ _ []).whenIdle.next
  | readpm => exact (opened_sameInEveryMode _ .readFrame).whenIdle.next
  | init => exact (opened_sameInEveryMode _ .startFrame).whenIdle.next
  | getpm25 | getpm10 | status => exact SameInEveryMode.next fun _ m => ⟨m, rfl⟩
  | reserved0 | reservedC | reservedD | reservedE | reservedF => exact (refuseOp_sameInEveryMode _).whenIdle.next
  | frameCmdStart | frameCmdStop | frameCmdRead | frameCmdCoeffNodata | frameCmdStopAuto | frameCmdEnAuto =>
    exact (sendFrame_sameInEveryMode _ _ []).whenIdle.next
  | frameLen1 dir c k => exact frameEffect_goesOnInEveryMode dir c [] k
  | frameLen2 dir c a k => exact frameEffect_goesOnInEveryMode dir c [a] k
  | frameLen3 dir c a b k => exact frameEffect_goesOnInEveryMode dir c [a, b] k
  | frameLen4 dir c a b d k => exact frameEffect_goesOnInEveryMode dir c [a, b, d] k
  | frameLen5 dir c a b d e k => exact frameEffect_goesOnInEveryMode dir c [a, b, d, e] k
  | frameRspMeasurement a b d e k => exact frameEffect_goesOnInEveryMode .rx Config.cmdRead [a, b, d, e] k

/-! ### Nor does a step -/

theorem runFetch_goesOnInEveryMode (f : Fetch) : GoesOnInEveryMode (runFetch f) := by
  intro s t m h
  unfold runFetch at h ⊢
  split at h
  · exact exec_goesOnInEveryMode _ s t m h
  · unfold undecoded at h ⊢
    split at h
    · exact receiveBytes_goesOnInEveryMode _ s t m h
    · cases h
    · cases h
      exact ⟨m, rfl⟩

theorem writeStep_withMode {s t : State} (h : writeStep s = .ok t) (m : Mode) :
    ∃ m', writeStep (withMode m s) = .ok (withMode m' t) := by
  have hop : (withMode m s).curOp = s.curOp := rfl
  have hphase : (withMode m s).phase = s.phase := rfl
  unfold writeStep at h ⊢
  rw [hop, hphase]
  -- one branch for each frame, then the one in which none is due
  split_ifs at h ⊢
  · exact ⟨nextMode m Config.cmdStart, by cases h; rfl⟩
  · exact ⟨nextMode m Config.cmdEnAuto, by cases h; rfl⟩
  · exact ⟨nextMode m Config.cmdRead, by cases h; rfl⟩

theorem engineStep_goesOnInEveryMode : GoesOnInEveryMode engineStep := by
  intro s t m h
  have hp : (withMode m s).pstate = s.pstate := rfl
  have hb : (withMode m s).busy = s.busy := rfl
  unfold engineStep
  rw [hp, hb]
  rcases engineStep_next h with ⟨hp, hq⟩ | ⟨hp, hb, hq⟩ | ⟨hp, hb, rfl⟩
  · exact ⟨m, by rw [if_pos hp, pollStep_withMode hq, outcome_ok]⟩
  · obtain ⟨m', hw⟩ := writeStep_withMode hq m
    exact ⟨m', by rw [if_neg (not_not.2 hp), if_pos hb, hw, outcome_ok]⟩
  · exact ⟨m, by simp [hp, hb]⟩

/-- The registers other than CR3 do not show the mode (R19). -/
theorem readReg_sameInEveryMode {r : CReg} (h : r ≠ .cr3) : SameInEveryMode fun s => setRdata (creg r s) s := by
  intro s m
  cases r with
  | cr3 => exact absurd rfl h
  | _ => exact ⟨m, rfl⟩

theorem dropInput_sameInEveryMode : SameInEveryMode dropInput := fun _ m => ⟨m, rfl⟩

/-- A reset gives the mode its reset value (R210). -/
theorem applyReset_sameInEveryMode : SameInEveryMode applyReset := fun _ _ => ⟨State.reset.mode, rfl⟩

/-- Settles O39: input by input, with the inputs still to come left in place. -/
theorem modeGatesNothing : Obligations.ModeGatesNothing := by
  intro s t m hread h
  change ∃ m', step (withMode m s) = .next (withMode m' t)
  have hin : (withMode m s).inputs = s.inputs := rfl
  have hb : (withMode m s).busy = s.busy := rfl
  unfold step at h ⊢
  rw [hin, hb]
  split at h
  · exact engineStep_goesOnInEveryMode s t m h
  · exact engineStep_goesOnInEveryMode (dropInput s) t m h
  · split at h
    · next hbusy =>
      rw [if_pos hbusy]
      exact engineStep_goesOnInEveryMode s t m h
    · next hidle =>
      rw [if_neg hidle]
      exact dropInput_sameInEveryMode.next s t m h
  · exact runFetch_goesOnInEveryMode _ (dropInput s) t m h
  · exact runFetch_goesOnInEveryMode _ (dropInput s) t m h
  · next r l hi =>
    have hr : r ≠ .cr3 := by
      rintro rfl
      simp [hi] at hread
    exact (readReg_sameInEveryMode hr).next (dropInput s) t m h
  · exact applyReset_sameInEveryMode.next (dropInput s) t m h

end Sys2Proof.Machine
end

section
/-!
Operations presented while another is in progress (spec/60_exceptions.md R188): every operation but the accessors runs behind
the test of `busy`.
-/

namespace Sys2Proof.Machine

/-- An operation behind the test of `busy` is ignored while another is in progress (R150, R188). -/
theorem next_whenIdle_of_busy {s : State} (h : s.busy = true) (f : State → State) :
    (.next (whenIdle f s) : Result) = .next s :=
  congrArg Host.Outcome.next (whenIdle_of_busy f h)

/-- Settles O8: each operation is one behind the test of `busy`, legal or not; an accessor is not. -/
theorem busyEngineIgnoresNonAccessors : Obligations.BusyEngineIgnoresNonAccessors := by
  intro s h
  refine ⟨fun _ _ _ _ _ _ => next_whenIdle_of_busy h _, fun _ _ => next_whenIdle_of_busy h _, fun i hi => ?_,
    accessorsReturnRegisters s⟩
  simp only [List.mem_cons, List.not_mem_nil, or_false] at hi
  rcases hi with rfl | rfl | rfl | rfl | rfl | rfl | rfl | rfl | rfl | rfl | rfl
  all_goals exact next_whenIdle_of_busy h _

end Sys2Proof.Machine
end

section
/-!
Reset (spec/70_reset_and_hazards.md R210 to R212): the state it leaves, and the input that brings it about at any moment.
-/

namespace Sys2Proof.Machine

/-! ### The state after reset -/

/-- Settles O30: nothing runs after reset, no result is held and the buffer is empty. -/
theorem invariantHoldsAtReset : Obligations.InvariantHoldsAtReset := inv_reset

/-- The buffer after reset lists no address, so every one holds its reset value. -/
@[simp] theorem reset_bufAt (i : Nat) : State.reset.bufAt i = 0x00 := rfl

/-- Settles O54: the buffer address by address, every other register as it is written in the reset state. -/
theorem resetLeavesResetValues : Obligations.ResetLeavesResetValues :=
  ⟨rfl, rfl, rfl, rfl, rfl, rfl, rfl, rfl, rfl, rfl, rfl, rfl, rfl, rfl, rfl, reset_bufAt, rfl, rfl⟩

/-! ### The reset input -/

/-- The reset input is taken off the list and acts in the same step, whatever is in progress (R212). -/
theorem step_reset {s : State} {rest : List Event} (h : s.inputs = .reset :: rest) :
    step s = .next (applyReset (withInputs rest s)) := by
  rw [← dropInput_of_cons h]
  simp only [step, h]

/-- Settles O55: the reset acts at once, and keeps only what is no register. -/
theorem resetInputAbortsEverything : Obligations.ResetInputAbortsEverything := by
  intro s rest h
  rw [step_reset h, applyReset, withInputs]

end Sys2Proof.Machine
end
